-- ==== Sys2Proof/Word.lean ====
section
/-! DEFINITION. The word types of the EN616 model and their plainest arithmetic: bytes of a record (spec 10.1),
readings of the millisecond time base (R181), and tables of a fixed number of like things. -/

namespace Sys2Proof

/-- One byte of a frame, a record or a transport packet. -/
abbrev Byte := BitVec 8

/-- One reading of the millisecond time base: 0 to 4,294,967,295, wrapping (R181). -/
abbrev Time := BitVec 32

/-- Replaces one entry of a table. -/
def Tab.put {α : Type} {n : Nat} (v : Vector α n) (i : Fin n) (x : α) : Vector α n := v.set i x

end Sys2Proof
end

