-- ==== Sys2Proof/Syntax.lean ====
section
/-! DEFINITION. The names the spec gives (ports, lanes, signal parameters, packet outcomes) and the commands of the
block: one constructor of `Instr` for each row of spec/opcode_table.json. -/

namespace Sys2Proof

/-- The four riser ports (spec 0.2). -/
inductive Port where
  | a | b | c | d
  deriving DecidableEq, Repr

/-- The six demodulator lanes, 0 to 5. -/
abbrev LaneId := Fin 6

/-- The sixteen memos, 0 to 15. -/
abbrev MemoId := Fin 16

/-- The ninety-six plan indices, 0 to 95. -/
abbrev PlanIndex := Fin 96

/-- The subscription ids of one port, 0 to 5. -/
abbrev SubId := Fin 6

/-- The slots of the packet pool, 0 to 127. -/
abbrev SlotId := Fin 128

/-- Channel bandwidths: 6,000, 7,000 and 8,000 kHz (R2, R19). -/
inductive Bandwidth where
  | b6 | b7 | b8
  deriving DecidableEq, Repr

/-- Carrier modes S, M and L (R19). -/
inductive CarrierMode where
  | s | m | l
  deriving DecidableEq, Repr

/-- Guard fractions 1/4, 1/8, 1/16 and 1/32 (R19). -/
inductive Guard where
  | g4 | g8 | g16 | g32
  deriving DecidableEq, Repr

/-- Constellations of 4, 16 and 64 points (R19). -/
inductive Constellation where
  | p4 | p16 | p64
  deriving DecidableEq, Repr

/-- Inner code rates 1/2, 2/3, 3/4, 5/6 and 7/8 (R19). -/
inductive CodeRate where
  | r12 | r23 | r34 | r56 | r78
  deriving DecidableEq, Repr

/-- The outcome the outer decoder gives a packet (R20). -/
inductive PacketOutcome where
  /-- No erroneous byte found. -/
  | clean
  /-- `n` erroneous bytes (1 to 10) found and corrected. -/
  | corrected (n : Nat)
  /-- More than 10 erroneous bytes. -/
  | uncorrectable
  deriving DecidableEq, Repr

/-- The commands of the block, one constructor for each row of spec/opcode_table.json.

A request row (PLAN_WRITE, SUBSCRIBE, STATUS_LANE and their like) is the step in which the owning block takes the
request at the head of a port's request queue: its operand is the port, and the request's own fields (plan index,
centre, label, PID list ...) stand in the body that UPLINK_FRAME brought into that queue (R170, R200). A row in which
one block takes what another has sent it (LOOKUP, RATE_REPORT, PACKET_EVENT, LOG_OCCURRENCE and their like) names
the lane or the place whose message is taken; what the message says stands in `State.mail`. A demodulator event
carries what the demodulator reports. -/
inductive Instr where
  -- resets (R1)
  | coldReset
  | warmReset
  -- channel plan and installation settings (chapter 1)
  | planWrite (p : Port)
  | planDiscard
  | planRead (p : Port)
  | installSet (p : Port)
  | planLock (p : Port)
  -- antenna feed request (R51)
  | feedSet (p : Port)
  -- memo requests (chapter 5)
  | memoPin (p : Port)
  | memoUnpin (p : Port)
  | memoReleaseAll (p : Port)
  | memoFlush (p : Port)
  | memoFlushUnpinned (p : Port)
  | memoSeed (p : Port)
  | memoRead (p : Port)
  | memoSnapshot (p : Port)
  -- admission requests (chapter 6)
  | subscribe (p : Port)
  | unsubscribe (p : Port)
  | filterSet (p : Port)
  | portSetup (p : Port)
  | portReset (p : Port)
  | windowSet (p : Port)
  -- fault log requests (chapter 9)
  | severitySet (p : Port)
  | logRead (p : Port)
  | logClear (p : Port)
  -- STATUS, by variant (R178)
  | statusSubscription (p : Port)
  | statusLane (p : Port)
  | statusFrontEnd (p : Port)
  | statusPort (p : Port)
  -- riser ports (chapters 7 and 8)
  | uplinkFrame (p : Port) (bytes : List Byte)
  | responseSendComplete (p : Port)
  | noticeSendComplete (p : Port)
  | sendComplete (p : Port)
  | alertPulseEnd (p : Port)
  | linkUp (p : Port)
  | linkDown (p : Port)
  | holdExpiry (p : Port)
  -- front end and antenna feed (chapter 3)
  | wakeCompletion
  | retuneCompletion
  | idleWindowSettled
  | minimumResidencyEnd
  | lastMoveStampDrop
  | clipEvent
  | quietTimeExpiry
  | overcurrentEvent
  | feedRestore
  | lastRestoreStampDrop
  -- memo store and lanes (chapters 4 and 5)
  | lookup (l : LaneId)
  | lookupAnswer (l : LaneId)
  | lockNotice (l : LaneId)
  | releaseNotice (l : LaneId)
  | restartAllocation (l : LaneId)
  | restartAllocationAnswer (l : LaneId)
  -- demodulator events and lane timers (chapter 4)
  | signalPresent (l : LaneId)
  | senseTimeout (l : LaneId)
  | carrierFound (l : LaneId) (offset : Int) (mode : CarrierMode) (guard : Guard)
  | carrierTimeout (l : LaneId)
  | frameDecoded (l : LaneId) (constellation : Constellation) (codeRate : CodeRate) (cell : BitVec 16)
  | frameTimeout (l : LaneId)
  | signallingMatch (l : LaneId) (cell : BitVec 16)
  | signallingMismatch (l : LaneId)
  | verifyTimeout (l : LaneId)
  | streamSync (l : LaneId)
  | streamTimeout (l : LaneId)
  | syncLost (l : LaneId)
  | syncRegained (l : LaneId)
  | coastExpiry (l : LaneId)
  | recheckTimerExpiry (l : LaneId)
  | recheck (l : LaneId) (mode : CarrierMode) (guard : Guard) (constellation : Constellation)
      (codeRate : CodeRate) (cell : BitVec 16)
  | lanePacket (l : LaneId) (outcome : PacketOutcome) (bytes : List Byte)
  | errorRateWindowComplete (l : LaneId)
  | unsettledExpiry (l : LaneId)
  | retryExpiry (l : LaneId)
  | lingerExpiry (l : LaneId)
  -- what the admission controller, the pool and the log take (chapters 6, 7 and 9)
  | rateReport (l : LaneId)
  | laneStateChange (l : LaneId)
  | changeToFree (l : LaneId)
  | packetEvent (l : LaneId)
  | logOccurrence (place : Nat)
  deriving DecidableEq, Repr

end Sys2Proof
end

