-- ==== Sys2Proof/Decode.lean ====
section
/-! DEFINITION. The command a table word spells. No row of spec/opcode_table.json gives bits (every row's "fields" is
empty and none has "fixed"): the part's commands are requests carried in frames (chapter 10), events of the
demodulators and of the line layer, and steps of the blocks themselves. So no word spells a command. The decoding the
spec does give, of uplink frames and request bodies, is `scanFrame` and the request readers of Machine/Operands.lean. -/

namespace Sys2Proof

/-- The command a word spells by the table's bits: none, since no row of the table has bits. -/
def decodeTableWord (_nbits _w : Nat) : Option Instr := none

end Sys2Proof
end

