-- ==== Sys2Proof/Config.lean ====
section
/-! DEFINITION. What the part fixes (spec 0.4, the parameters of the part) and the free values that the spec
leaves open. -/

namespace Sys2Proof.Config

/-- FREE VALUE (log entry 7). R143: the free set of the packet pool 'has no order, and the pool takes any free slot
from it when it needs one'. The n-th time the pool takes a slot, it takes the one that stands at this place (modulo
the number of free slots) among the free slots. It has no body: nothing can be proved of which slot is taken. -/
opaque freeSlotPick : Nat → Nat

/-- FREE VALUE (log entry 8). The bytes of a label field beyond the label's length in an answer: R197 says that they
are ignored and not what the part sends there. -/
opaque labelFill : Nat → Byte

/-- Slots of the packet pool (0.4). -/
def poolSlots : Nat := 128

/-- The lowest and the highest window position, kHz (R29). -/
def windowLow : Nat := 160000
def windowHigh : Nat := 624000

/-- W after each reset, kHz (R40, R59). -/
def windowReset : Nat := 470000

/-- The lowest and the highest port capacity and the default one, kbit/s (R27). -/
def capacityLow : Nat := 10000
def capacityHigh : Nat := 200000
def capacityDefault : Nat := 100000

/-- The lowest and the highest quota of an output queue, and the quota after each reset (R145). -/
def quotaLow : Nat := 8
def quotaHigh : Nat := 64
def quotaDefault : Nat := 32

/-- The largest value of a saturating 32-bit counter (spec 0.2). -/
def counterMax : Nat := 4294967295

/-- The largest occurrence count of a log class (R185). -/
def occurrenceMax : Nat := 65535

end Sys2Proof.Config
end

