-- ==== Sys2Proof/Machine/State.lean ====
section
/-! DEFINITION. Every piece of state the spec gives the part, as plain data, block by block as spec 0.1 divides it;
the messages that one block has sent and another has not yet taken; the queue of waiting commands; and the state
after a cold reset. -/

namespace Sys2Proof.Machine

/-- Why the machine could stop. No rule of the spec stops the part, so no meaning ends in a fault and the type has no
constructor: safe, since every command answers a next state. -/
inductive Fault where
  deriving DecidableEq, Repr

/-- Why a command could be refused by the model. -/
inductive Refusal where
  /-- Raised only by an arm of `exec` whose command has no meaning yet; safe, since it claims nothing. -/
  | notModelled (mnemonic : String)
  deriving DecidableEq, Repr

/-! ## Channel plan (chapter 1) -/

/-- A present plan entry (R2). An absent entry is `none`: it has no centre frequency and no label. -/
structure PlanEntry where
  /-- Centre frequency, kHz. -/
  centre : Nat
  bandwidth : Bandwidth
  /-- 1 to 16 characters, or absent. -/
  label : Option (List Byte)
  deriving DecidableEq, Repr

/-- Standby policy (R11). -/
inductive StandbyPolicy where
  | shallow | deep
  deriving DecidableEq, Repr

/-- The installation settings record (R11). -/
structure Settings where
  /-- Minimum move interval, 0 to 60,000 ms. -/
  moveInterval : Nat
  /-- Linger time, 0 to 255 s. -/
  linger : Nat
  /-- Unsettle threshold, 1 to 1,000. -/
  unsettle : Nat
  /-- Detach hold time, 1 to 60 s. -/
  hold : Nat
  policy : StandbyPolicy
  deriving DecidableEq, Repr

/-- A discard the plan block has asked the memo store for and that the store has not taken (R6, R7), with the port
whose PLAN_WRITE waits for it; `none` once that port's link has gone down. -/
structure DiscardAsk where
  index : PlanIndex
  answerTo : Option Port
  deriving DecidableEq, Repr

/-- The channel plan block: plan table, settings record, plan lock, and the discard it waits for (R2, R11, R16, R17). -/
structure PlanBlock where
  entries : Vector (Option PlanEntry) 96
  settings : Settings
  lock : Bool
  discard : Option DiscardAsk
  deriving DecidableEq, Repr

/-! ## Front end (chapter 3) -/

/-- Front-end power states (R33). -/
inductive FrontEndState where
  | off | idle | waking | active | retuning
  deriving DecidableEq, Repr

/-- States of the antenna feed supply (R51). -/
inductive FeedState where
  | off | on | faultWait | latched
  deriving DecidableEq, Repr

/-- The front end: power level, window, attenuator and feed (R33, R40, R50, R51). -/
structure FrontEnd where
  state : FrontEndState
  wakeEnd : Option Time
  activeSince : Option Time
  idleSince : Option Time
  /-- When the retune in progress completes (R43). -/
  retuneEnd : Option Time
  /-- W, the window's lower edge, kHz. -/
  window : Nat
  lastMove : Option Time
  /-- Attenuator setting, dB. -/
  attenuator : Nat
  /-- Quiet time, ms. -/
  quiet : Nat
  /-- The ms still to run before the ADC may report a clip again (R50). -/
  clipMute : Nat
  feed : FeedState
  retryCount : Nat
  lastRestore : Option Time
  /-- When the wait of FAULT_WAIT runs out (R52). -/
  feedWaitEnd : Option Time
  deriving DecidableEq, Repr

/-! ## Demodulator lanes (chapter 4) and memo fields (R62, R91) -/

/-- The seven fields of a lane's parameter set and of a memo, each present or absent (R62, R91). -/
structure Params where
  /-- Frequency offset, kHz. -/
  offset : Option Int
  mode : Option CarrierMode
  guard : Option Guard
  constellation : Option Constellation
  codeRate : Option CodeRate
  cell : Option (BitVec 16)
  /-- Stream rate, kbit/s. -/
  streamRate : Option Nat
  deriving DecidableEq, Repr

/-- Every field absent. -/
def Params.absent : Params :=
  { offset := none, mode := none, guard := none, constellation := none, codeRate := none, cell := none,
    streamRate := none }

/-- Acquisition stages (R60). -/
inductive Stage where
  | wait | sense | carrier | frame | verify | stream
  deriving DecidableEq, Repr

/-- HOLDOFF reasons (R82). -/
inductive HoldoffReason where
  | noSignal | failed | feed
  deriving DecidableEq, Repr

/-- A lane's state, with its stage or its HOLDOFF reason where it has one (R60). -/
inductive LaneState where
  | free
  | acquire (stage : Stage)
  | locked
  | coast
  | holdoff (reason : HoldoffReason)
  deriving DecidableEq, Repr

/-- A lane's state without stage and reason: what a lane reports to the admission controller (R61). -/
inductive LaneKind where
  | free | acquire | locked | coast | holdoff
  deriving DecidableEq, Repr

/-- The lane record (R60). The share count is held by the admission controller (R117) and stands in `AdmLane`. -/
structure Lane where
  state : LaneState
  channel : Option PlanIndex
  memo : Option MemoId
  /-- The lookup sent at assignment is unanswered (R63, R64). -/
  lookupPending : Bool
  /-- How many restart allocations are unanswered (R83, R101). -/
  restartsPending : Nat
  /-- How many answers still to come belong to questions the lane asked before it was last released: R64 discards them
  (DEDUCED, log entry 21). -/
  staleAnswers : Nat
  attempts : Nat
  params : Params
  /-- The frequency the lane is tuned to, kHz: set on entry to SENSE (R67), dropped with the channel. -/
  tuned : Option Int
  /-- The UNSETTLED flag: its expiry time while it is set. -/
  unsettled : Option Time
  lingerStart : Option Time
  stageTimer : Option Time
  recheckTimer : Option Time
  readPending : Bool
  coastTimer : Option Time
  retryTimer : Option Time
  packets : Nat
  correctedPackets : Nat
  correctedBytes : Nat
  uncorrectable : Nat
  windowPackets : Nat
  windowUncorrectable : Nat
  /-- Uncorrectable counts of completed error-rate windows not yet compared with the threshold, oldest first (R80). -/
  windowsDone : List Nat
  deriving DecidableEq, Repr

/-- A FREE lane as a reset leaves it (R90). -/
def Lane.fresh : Lane :=
  { state := .free, channel := none, memo := none, lookupPending := false, restartsPending := 0,
    staleAnswers := 0, attempts := 0, params := Params.absent, tuned := none, unsettled := none,
    lingerStart := none, stageTimer := none, recheckTimer := none, readPending := false, coastTimer := none,
    retryTimer := none, packets := 0, correctedPackets := 0,
    correctedBytes := 0, uncorrectable := 0, windowPackets := 0, windowUncorrectable := 0, windowsDone := [] }

/-! ## Acquisition memo store (chapter 5) -/

/-- One memo (R91): its tag (`none` is NONE), its pin and its seven fields. -/
structure Memo where
  tag : Option PlanIndex
  pinned : Bool
  fields : Params
  deriving DecidableEq, Repr

/-- An empty memo (R91). -/
def Memo.empty : Memo := { tag := none, pinned := false, fields := Params.absent }

/-- The default recency order: 15, 14, … , 0 (R94). -/
def defaultOrder : List MemoId := [15, 14, 13, 12, 11, 10, 9, 8, 7, 6, 5, 4, 3, 2, 1, 0]

/-- The memo store: memos, recency order (most recent first), and for each lane the channel the store counts it in
use for (R91, R92, R94). -/
structure MemoStore where
  memos : Vector Memo 16
  order : List MemoId
  inUse : Vector (Option PlanIndex) 6
  deriving DecidableEq, Repr

/-! ## Admission controller (chapter 6) -/

/-- Error mode of a subscription (R115). -/
inductive ErrorMode where
  | mark | drop
  deriving DecidableEq, Repr

/-- Derived states of a subscription (R119). -/
inductive SubState where
  | held | overload | pending | live | interrupted | noSignal
  deriving DecidableEq, Repr

/-- A subscription record (R115). Its port and id are its place in the table. -/
structure Sub where
  channel : PlanIndex
  lane : LaneId
  mode : ErrorMode
  /-- Distinct PIDs in ascending order; empty passes the whole multiplex. -/
  pids : List Nat
  /-- Charged load, kbit/s. -/
  charge : Nat
  overload : Bool
  liveMark : Bool
  reported : SubState
  continuity : BitVec 4
  firstAfter : Bool
  delivered : Nat
  marked : Nat
  errorDropped : Nat
  overflowDropped : Nat
  deriving DecidableEq, Repr

/-- What the admission controller holds of one lane (R117, R133): channel, share count, charging rate, and its copy of
the lane's state. -/
structure AdmLane where
  channel : Option PlanIndex
  share : Nat
  rate : Option Nat
  seen : LaneKind
  deriving DecidableEq, Repr

/-- A lane as the admission controller holds it after a reset (R142). -/
def AdmLane.fresh : AdmLane := { channel := none, share := 0, rate := none, seen := .free }

/-- Standby level of a port (R118). -/
inductive StandbyLevel where
  | idle | off
  deriving DecidableEq, Repr

/-- What the admission controller holds of one port (R115, R118): its subscriptions by id, its capacity and committed
load in kbit/s, and its standby level. -/
structure AdmPort where
  subs : Vector (Option Sub) 6
  capacity : Nat
  committed : Nat
  standby : StandbyLevel
  deriving DecidableEq, Repr

/-- A port as the admission controller holds it after a reset (R142). -/
def AdmPort.fresh : AdmPort :=
  { subs := Vector.replicate 6 none, capacity := Config.capacityDefault, committed := 0, standby := .idle }

/-- A value for each of the four ports. -/
structure PerPort (α : Type) where
  a : α
  b : α
  c : α
  d : α
  deriving DecidableEq, Repr

/-- The value of one port. -/
def PerPort.get {α : Type} (t : PerPort α) : Port → α
  | .a => t.a
  | .b => t.b
  | .c => t.c
  | .d => t.d

/-- Replaces the value of one port. -/
def PerPort.put {α : Type} (t : PerPort α) (p : Port) (x : α) : PerPort α :=
  match p with
  | .a => { t with a := x }
  | .b => { t with b := x }
  | .c => { t with c := x }
  | .d => { t with d := x }

/-- The same value for every port. -/
def PerPort.all {α : Type} (x : α) : PerPort α := { a := x, b := x, c := x, d := x }

/-- The admission controller's tables and the port its arbiter served last (R117, R122). -/
structure Admission where
  lanes : Vector AdmLane 6
  ports : PerPort AdmPort
  lastServed : Port
  deriving DecidableEq, Repr

/-! ## Packet pool (chapter 7) -/

/-- A used slot (R143): its packet, whose tag header comes from each entry, and its reference count. -/
structure Slot where
  packet : List Byte
  refs : Nat
  deriving DecidableEq, Repr

/-- An output-queue entry: a slot number and the entry's own tag (R145). -/
structure Entry where
  slot : SlotId
  port : Port
  id : SubId
  lane : LaneId
  continuity : BitVec 4
  errorFlag : Bool
  firstAfter : Bool
  deriving DecidableEq, Repr

/-- The packet pool (R143, R145): slots (`none` is free), output queues (oldest entry at the head) and quotas. -/
structure Pool where
  slots : Vector (Option Slot) 128
  queues : PerPort (List Entry)
  quotas : PerPort Nat
  deriving DecidableEq, Repr

/-! ## Fault log (chapter 9) -/

/-- The eighteen error kinds, in the order of R182. -/
inductive ErrorKind where
  | reqCheck | reqMalformed | acqFail | lockLost | memoMismatch | memoUnavailable | cellChanged | signallingChange
  | laneUnsettled | rateOverload | queueOverflow | poolExhausted | feClip | feedFault | feedLatched | portDetached
  | portExpired | warmReset
  deriving DecidableEq, Repr

/-- The code of an error kind, 0 to 17 (R198), which is its place in the severity table. -/
def ErrorKind.index : ErrorKind → Fin 18
  | .reqCheck => 0
  | .reqMalformed => 1
  | .acqFail => 2
  | .lockLost => 3
  | .memoMismatch => 4
  | .memoUnavailable => 5
  | .cellChanged => 6
  | .signallingChange => 7
  | .laneUnsettled => 8
  | .rateOverload => 9
  | .queueOverflow => 10
  | .poolExhausted => 11
  | .feClip => 12
  | .feedFault => 13
  | .feedLatched => 14
  | .portDetached => 15
  | .portExpired => 16
  | .warmReset => 17

/-- The five severities (R183). -/
inductive Severity where
  | ignore | advisory | degraded | serious | critical
  deriving DecidableEq, Repr

/-- The default severities, in the order of R182. -/
def defaultSeverities : Vector Severity 18 :=
  #v[.advisory, .degraded, .degraded, .degraded, .advisory, .advisory, .advisory, .degraded, .degraded, .degraded,
    .degraded, .serious, .advisory, .serious, .critical, .degraded, .serious, .serious]

/-- A first record (R185). -/
structure FirstRecord where
  kind : ErrorKind
  severity : Severity
  stamp : Time
  port : Option Port
  lane : Option LaneId
  plan : Option PlanIndex
  deriving DecidableEq, Repr

/-- A log class (R185). The next set is a list without repeats in the order of the kinds' codes. -/
structure LogClass where
  first : Option FirstRecord
  nextSet : List ErrorKind
  count : Nat
  deriving DecidableEq, Repr

/-- An empty class (R185). -/
def LogClass.empty : LogClass := { first := none, nextSet := [], count := 0 }

/-- Names of the two classes (R185). -/
inductive ClassName where
  | minor | major
  deriving DecidableEq, Repr

/-- The fault log: severity table and the two classes (R183, R185). Its time base is `State.now`. -/
structure FaultLog where
  severities : Vector Severity 18
  minor : LogClass
  major : LogClass
  deriving DecidableEq, Repr

/-- An occurrence as a block reports it (R182). -/
structure Occurrence where
  kind : ErrorKind
  port : Option Port
  lane : Option LaneId
  plan : Option PlanIndex
  deriving DecidableEq, Repr

/-! ## Riser ports (chapter 8) -/

/-- Link states (R163). -/
inductive LinkState where
  | unattached | attached | holding
  deriving DecidableEq, Repr

/-- Attach kinds (R163). -/
inductive AttachKind where
  | fresh | resumed
  deriving DecidableEq, Repr

/-- A request record (R163): kind, tag, body, and whether it has been passed to its owning block. -/
structure Request where
  kind : Byte
  tag : Byte
  body : List Byte
  passed : Bool
  deriving DecidableEq, Repr

/-- A response waiting to be sent (R163): a BUSY answer, or the answer to the request at the head of the queue. -/
structure Response where
  busy : Bool
  kind : Byte
  tag : Byte
  body : List Byte
  deriving DecidableEq, Repr

/-- What a WINDOW notice reports (R49). -/
inductive WindowEvent where
  | move | retuneCompletion
  deriving DecidableEq, Repr

/-- Notices (R173, R202). A STREAM_STATE notice of a removed subscription has no state, lane and charge (R121). -/
inductive Notice where
  | streamState (id : SubId) (what : Option (SubState × LaneId × Nat))
  | window (edge : Nat) (state : FrontEndState) (event : WindowEvent)
  | feed (state : FeedState) (retryCount : Nat)
  | log (cls : ClassName) (record : FirstRecord)
  deriving DecidableEq, Repr

/-- The downlink (R163): idle, or sending. A response being sent is the oldest of the response list and a packet being
sent is the head entry of the output queue, each of which stays there until its send-complete (R175, R157); a notice
has left its queue (R174). -/
inductive Downlink where
  | idle
  | response
  | notice (n : Notice)
  | packet
  deriving DecidableEq, Repr

/-- The port record (R163), with the uplink bytes received and not yet taken as a frame (R168). -/
structure PortRec where
  link : LinkState
  holdStart : Option Time
  attach : Option AttachKind
  uplink : List Byte
  requests : List Request
  responses : List Response
  notices : List Notice
  downlink : Downlink
  pulseEnd : Option Time
  checkFailures : Nat
  busyAnswers : Nat
  requestsLost : Nat
  deriving DecidableEq, Repr

/-- A port as a reset leaves it (R180). -/
def PortRec.fresh : PortRec :=
  { link := .unattached, holdStart := none, attach := none, uplink := [], requests := [], responses := [],
    notices := [], downlink := .idle, pulseEnd := none, checkFailures := 0, busyAnswers := 0, requestsLost := 0 }

/-! ## Messages between blocks -/

/-- What a lane sends the memo store (R97, R99, R100, R101). -/
inductive StoreMsg where
  | lookup (channel : PlanIndex)
  | lock (memo : MemoId)
  | release (channel : PlanIndex)
  | restart (channel : PlanIndex) (params : Params)
  deriving DecidableEq, Repr

/-- What the memo store answers a lane (R64, R101). -/
inductive LaneMsg where
  | lookup (channel : PlanIndex) (answer : Option (MemoId × Params))
  | restart (channel : PlanIndex) (answer : Option MemoId)
  deriving DecidableEq, Repr

/-- What a lane reports to the admission controller (R61, R73, R141). -/
inductive AdmMsg where
  | rate (l : LaneId) (rate : Option Nat)
  | state (l : LaneId) (kind : LaneKind)
  | toFree (l : LaneId)
  deriving DecidableEq, Repr

/-- A packet a lane has handed to the pool (R79). -/
structure PacketMsg where
  bytes : List Byte
  outcome : PacketOutcome
  deriving DecidableEq, Repr

/-- What has been sent and not yet taken, oldest first: by lane to the memo store, back to the lane and to the pool; to
the admission controller in the order given (R123); to the log (R193). -/
structure Mail where
  toStore : Vector (List StoreMsg) 6
  toLane : Vector (List LaneMsg) 6
  toPool : Vector (List PacketMsg) 6
  toAdm : List AdmMsg
  toLog : List Occurrence
  deriving DecidableEq, Repr

/-- Nothing sent. -/
def Mail.empty : Mail :=
  { toStore := Vector.replicate 6 [], toLane := Vector.replicate 6 [], toPool := Vector.replicate 6 [], toAdm := [],
    toLog := [] }

/-! ## The whole part -/

/-- The state of the part, and the commands that wait, first in first out. -/
structure State where
  /-- The millisecond time base, kept by the fault log (R181). -/
  now : Time
  plan : PlanBlock
  fe : FrontEnd
  lanes : Vector Lane 6
  store : MemoStore
  adm : Admission
  pool : Pool
  ports : PerPort PortRec
  log : FaultLog
  mail : Mail
  /-- The MODEL's own field, not the spec's: how many slots the pool has taken, the argument of the free value
  `Config.freeSlotPick` (log entry 7). -/
  slotPicks : Nat
  pending : List Instr
  deriving DecidableEq, Repr

/-- The installation settings after a cold reset (R11). -/
def Settings.default : Settings := { moveInterval := 10000, linger := 30, unsettle := 10, hold := 8, policy := .shallow }

/-- The front end after either reset (R59). -/
def FrontEnd.fresh : FrontEnd :=
  { state := .off, wakeEnd := none, activeSince := none, idleSince := none, retuneEnd := none,
    window := Config.windowReset, lastMove := none, attenuator := 0, quiet := 0, clipMute := 0, feed := .off,
    retryCount := 0, lastRestore := none, feedWaitEnd := none }

/-- The memo store after either reset (R114). -/
def MemoStore.fresh : MemoStore :=
  { memos := Vector.replicate 16 Memo.empty, order := defaultOrder, inUse := Vector.replicate 6 none }

/-- The admission controller after either reset (R142). -/
def Admission.fresh : Admission :=
  { lanes := Vector.replicate 6 AdmLane.fresh, ports := PerPort.all AdmPort.fresh, lastServed := .d }

/-- The pool after either reset (R162). -/
def Pool.fresh : Pool :=
  { slots := Vector.replicate 128 none, queues := PerPort.all [], quotas := PerPort.all Config.quotaDefault }

/-- The log after a cold reset (R195). -/
def FaultLog.fresh : FaultLog := { severities := defaultSeverities, minor := LogClass.empty, major := LogClass.empty }

/-- The plan block after a cold reset (R18). -/
def PlanBlock.fresh : PlanBlock :=
  { entries := Vector.replicate 96 none, settings := Settings.default, lock := false, discard := none }

/-- The part right after a cold reset (R18, R59, R90, R114, R142, R162, R180, R195), with no command waiting. -/
def State.reset : State :=
  { now := 0, plan := PlanBlock.fresh, fe := FrontEnd.fresh, lanes := Vector.replicate 6 Lane.fresh,
    store := MemoStore.fresh, adm := Admission.fresh, pool := Pool.fresh, ports := PerPort.all PortRec.fresh,
    log := FaultLog.fresh, mail := Mail.empty, slotPicks := 0, pending := [] }

/-! ## Reading and replacing one part of the state -/

def State.setPlan (s : State) (x : PlanBlock) : State := { s with plan := x }
def State.setFe (s : State) (x : FrontEnd) : State := { s with fe := x }
def State.setStore (s : State) (x : MemoStore) : State := { s with store := x }
def State.setAdm (s : State) (x : Admission) : State := { s with adm := x }
def State.setPool (s : State) (x : Pool) : State := { s with pool := x }
def State.setLog (s : State) (x : FaultLog) : State := { s with log := x }
def State.setMail (s : State) (x : Mail) : State := { s with mail := x }

/-- The record of one lane. -/
def State.lane (s : State) (l : LaneId) : Lane := s.lanes.get l

/-- Replaces the record of one lane. -/
def State.setLane (s : State) (l : LaneId) (x : Lane) : State := { s with lanes := Tab.put s.lanes l x }

/-- The record of one port. -/
def State.port (s : State) (p : Port) : PortRec := s.ports.get p

/-- Replaces the record of one port. -/
def State.setPort (s : State) (p : Port) (x : PortRec) : State := { s with ports := s.ports.put p x }

/-- One memo. -/
def State.memo (s : State) (m : MemoId) : Memo := s.store.memos.get m

/-- Replaces one memo. -/
def State.setMemo (s : State) (m : MemoId) (x : Memo) : State :=
  s.setStore { s.store with memos := Tab.put s.store.memos m x }

/-- What the admission controller holds of one lane. -/
def State.admLane (s : State) (l : LaneId) : AdmLane := s.adm.lanes.get l

/-- Replaces what the admission controller holds of one lane. -/
def State.setAdmLane (s : State) (l : LaneId) (x : AdmLane) : State :=
  s.setAdm { s.adm with lanes := Tab.put s.adm.lanes l x }

/-- What the admission controller holds of one port. -/
def State.admPort (s : State) (p : Port) : AdmPort := s.adm.ports.get p

/-- Replaces what the admission controller holds of one port. -/
def State.setAdmPort (s : State) (p : Port) (x : AdmPort) : State :=
  s.setAdm { s.adm with ports := s.adm.ports.put p x }

/-- The subscription of a port and an id, if there is one. -/
def State.sub (s : State) (p : Port) (i : SubId) : Option Sub := (s.admPort p).subs.get i

/-- Creates, replaces or removes the subscription of a port and an id. -/
def State.setSub (s : State) (p : Port) (i : SubId) (x : Option Sub) : State :=
  s.setAdmPort p { s.admPort p with subs := Tab.put (s.admPort p).subs i x }

/-- The output queue of a port. -/
def State.queue (s : State) (p : Port) : List Entry := s.pool.queues.get p

/-- Replaces the output queue of a port. -/
def State.setQueue (s : State) (p : Port) (q : List Entry) : State :=
  s.setPool { s.pool with queues := s.pool.queues.put p q }

/-- One slot of the pool: `none` is free. -/
def State.slot (s : State) (i : SlotId) : Option Slot := s.pool.slots.get i

/-- Replaces one slot of the pool. -/
def State.setSlot (s : State) (i : SlotId) (x : Option Slot) : State :=
  s.setPool { s.pool with slots := Tab.put s.pool.slots i x }

/-- The quota of a port. -/
def State.quota (s : State) (p : Port) : Nat := s.pool.quotas.get p

/-- The plan entry at an index. -/
def State.entry (s : State) (x : PlanIndex) : Option PlanEntry := s.plan.entries.get x

end Sys2Proof.Machine
end

