-- ==== Sys2Proof/Machine/Operands.lean ====
section
/-! DEFINITION. The forms in which operands reach the part and leave it: field encodings and codes (R197, R198), control
frames and their check code (R199), request bodies (R200), the tag header (R203), and the RESET pin (R1). -/

namespace Sys2Proof

/-! ## Codes and sizes of the names of Syntax.lean (R198, R2) -/

def Port.code : Port → Nat
  | .a => 0
  | .b => 1
  | .c => 2
  | .d => 3

/-- The ports in the order A, B, C, D. -/
def Port.all : List Port := [.a, .b, .c, .d]

def Port.ofCode : Nat → Option Port
  | 0 => some .a
  | 1 => some .b
  | 2 => some .c
  | 3 => some .d
  | _ => none

/-- The ports in the order in which the arbiter looks at them when the given port was served last (R122). -/
def Port.after : Port → List Port
  | .a => [.b, .c, .d, .a]
  | .b => [.c, .d, .a, .b]
  | .c => [.d, .a, .b, .c]
  | .d => [.a, .b, .c, .d]

def CarrierMode.code : CarrierMode → Nat
  | .s => 0
  | .m => 1
  | .l => 2

def CarrierMode.ofCode : Nat → Option CarrierMode
  | 0 => some .s
  | 1 => some .m
  | 2 => some .l
  | _ => none

def Guard.code : Guard → Nat
  | .g4 => 0
  | .g8 => 1
  | .g16 => 2
  | .g32 => 3

def Guard.ofCode : Nat → Option Guard
  | 0 => some .g4
  | 1 => some .g8
  | 2 => some .g16
  | 3 => some .g32
  | _ => none

def Constellation.code : Constellation → Nat
  | .p4 => 0
  | .p16 => 1
  | .p64 => 2

def Constellation.ofCode : Nat → Option Constellation
  | 0 => some .p4
  | 1 => some .p16
  | 2 => some .p64
  | _ => none

def CodeRate.code : CodeRate → Nat
  | .r12 => 0
  | .r23 => 1
  | .r34 => 2
  | .r56 => 3
  | .r78 => 4

def CodeRate.ofCode : Nat → Option CodeRate
  | 0 => some .r12
  | 1 => some .r23
  | 2 => some .r34
  | 3 => some .r56
  | 4 => some .r78
  | _ => none

def Bandwidth.khz : Bandwidth → Nat
  | .b6 => 6000
  | .b7 => 7000
  | .b8 => 8000

def Bandwidth.ofKhz (n : Nat) : Option Bandwidth :=
  if n = 6000 then some .b6 else if n = 7000 then some .b7 else if n = 8000 then some .b8 else none

end Sys2Proof

namespace Sys2Proof.Machine

/-! ## The RESET pin (R1) -/

/-- The command that RESET held low for some microseconds gives: none below 100 µs, WARM_RESET from 100 µs up to but
not including 10 ms, COLD_RESET from 10 ms on (R1). -/
def resetPulse (lowMicros : Nat) : Option Instr :=
  if 10000 ≤ lowMicros then some .coldReset else if 100 ≤ lowMicros then some .warmReset else none

/-! ## Field encodings (R197) -/

/-- A 1-byte unsigned field. -/
def enc8 (n : Nat) : List Byte := [BitVec.ofNat 8 n]

/-- A 2-byte unsigned field, most significant byte first. -/
def enc16 (n : Nat) : List Byte := [BitVec.ofNat 8 (n / 256), BitVec.ofNat 8 n]

/-- A 4-byte unsigned field, most significant byte first. -/
def enc32 (n : Nat) : List Byte :=
  [BitVec.ofNat 8 (n / 16777216), BitVec.ofNat 8 (n / 65536), BitVec.ofNat 8 (n / 256), BitVec.ofNat 8 n]

/-- A field that reads all-ones where it is absent. -/
def encOpt8 : Option Nat → List Byte
  | some n => enc8 n
  | none => enc8 0xFF

def encOpt16 : Option Nat → List Byte
  | some n => enc16 n
  | none => enc16 0xFFFF

def encOpt32 : Option Nat → List Byte
  | some n => enc32 n
  | none => enc32 0xFFFFFFFF

/-- A flag as 0 or 1. -/
def encFlag (b : Bool) : List Byte := enc8 (if b then 1 else 0)

/-- A flag set of two: bit 0 the first, bit 1 the second. -/
def encFlags (first second : Bool) : List Byte := enc8 ((if first then 1 else 0) + (if second then 2 else 0))

/-- A byte of a body. -/
def byteAt (body : List Byte) (i : Nat) : Nat := (body.getD i 0xFF).toNat

/-- A 2-byte field of a body. -/
def word16At (body : List Byte) (i : Nat) : Nat := byteAt body i * 256 + byteAt body (i + 1)

/-- A 4-byte field of a body. -/
def word32At (body : List Byte) (i : Nat) : Nat := word16At body i * 65536 + word16At body (i + 2)

/-- A field of a request, absent at its all-ones value. -/
def given (allOnes n : Nat) : Option Nat := if n = allOnes then none else some n

/-- A 1-byte field below a bound. -/
def finOf (bound n : Nat) : Option (Fin bound) := if h : n < bound then some ⟨n, h⟩ else none

/-! ## Codes (R198) -/

/-- The lanes 0 to 5. -/
def allLanes : List LaneId := [0, 1, 2, 3, 4, 5]

/-- The memos 0 to 15. -/
def allMemos : List MemoId := [0, 1, 2, 3, 4, 5, 6, 7, 8, 9, 10, 11, 12, 13, 14, 15]

/-- The ids 0 to 5. -/
def allIds : List SubId := [0, 1, 2, 3, 4, 5]

def ErrorMode.code : ErrorMode → Nat
  | .mark => 0
  | .drop => 1

def ErrorMode.ofCode : Nat → Option ErrorMode
  | 0 => some .mark
  | 1 => some .drop
  | _ => none

def StandbyLevel.code : StandbyLevel → Nat
  | .idle => 0
  | .off => 1

def StandbyLevel.ofCode : Nat → Option StandbyLevel
  | 0 => some .idle
  | 1 => some .off
  | _ => none

def StandbyPolicy.code : StandbyPolicy → Nat
  | .shallow => 0
  | .deep => 1

def StandbyPolicy.ofCode : Nat → Option StandbyPolicy
  | 0 => some .shallow
  | 1 => some .deep
  | _ => none

def FeedState.code : FeedState → Nat
  | .off => 0
  | .on => 1
  | .faultWait => 2
  | .latched => 3

/-- A feed request: OFF 0 (false) or ON 1 (true). -/
def feedRequestOfCode : Nat → Option Bool
  | 0 => some false
  | 1 => some true
  | _ => none

def FrontEndState.code : FrontEndState → Nat
  | .off => 0
  | .idle => 1
  | .waking => 2
  | .active => 3
  | .retuning => 4

def LaneKind.code : LaneKind → Nat
  | .free => 0
  | .acquire => 1
  | .locked => 2
  | .coast => 3
  | .holdoff => 4

/-- A lane's state without its stage and reason (R61). -/
def LaneState.kind : LaneState → LaneKind
  | .free => .free
  | .acquire _ => .acquire
  | .locked => .locked
  | .coast => .coast
  | .holdoff _ => .holdoff

def Stage.code : Stage → Nat
  | .wait => 0
  | .sense => 1
  | .carrier => 2
  | .frame => 3
  | .verify => 4
  | .stream => 5

/-- The code of the stage, present in ACQUIRE (R60). -/
def LaneState.stageCode : LaneState → Option Nat
  | .free => none
  | .acquire st => some st.code
  | .locked => none
  | .coast => none
  | .holdoff _ => none

def HoldoffReason.code : HoldoffReason → Nat
  | .noSignal => 0
  | .failed => 1
  | .feed => 2

/-- The code of the HOLDOFF reason, present in HOLDOFF (R60). -/
def LaneState.reasonCode : LaneState → Option Nat
  | .free => none
  | .acquire _ => none
  | .locked => none
  | .coast => none
  | .holdoff r => some r.code

def SubState.code : SubState → Nat
  | .held => 0
  | .overload => 1
  | .pending => 2
  | .live => 3
  | .interrupted => 4
  | .noSignal => 5

def LinkState.code : LinkState → Nat
  | .unattached => 0
  | .attached => 1
  | .holding => 2

def AttachKind.code : AttachKind → Nat
  | .fresh => 0
  | .resumed => 1

def Severity.code : Severity → Nat
  | .ignore => 0
  | .advisory => 1
  | .degraded => 2
  | .serious => 3
  | .critical => 4

def Severity.ofCode : Nat → Option Severity
  | 0 => some .ignore
  | 1 => some .advisory
  | 2 => some .degraded
  | 3 => some .serious
  | 4 => some .critical
  | _ => none

def ClassName.code : ClassName → Nat
  | .minor => 0
  | .major => 1

def ClassName.ofCode : Nat → Option ClassName
  | 0 => some .minor
  | 1 => some .major
  | _ => none

def WindowEvent.code : WindowEvent → Nat
  | .move => 0
  | .retuneCompletion => 1

def Downlink.code : Downlink → Nat
  | .idle => 0
  | .response => 1
  | .notice _ => 2
  | .packet => 3

/-- The eighteen kinds in the order of their codes. -/
def ErrorKind.all : List ErrorKind :=
  [.reqCheck, .reqMalformed, .acqFail, .lockLost, .memoMismatch, .memoUnavailable, .cellChanged, .signallingChange,
    .laneUnsettled, .rateOverload, .queueOverflow, .poolExhausted, .feClip, .feedFault, .feedLatched, .portDetached,
    .portExpired, .warmReset]

def ErrorKind.ofCode (n : Nat) : Option ErrorKind := ErrorKind.all[n]?

/-- The variants of STATUS (R178). -/
inductive StatusVariant where
  | subscription | lane | frontEnd | port
  deriving DecidableEq, Repr

def StatusVariant.ofCode : Nat → Option StatusVariant
  | 0 => some .subscription
  | 1 => some .lane
  | 2 => some .frontEnd
  | 3 => some .port
  | _ => none

/-- The statuses of a response (R198). -/
inductive Status where
  | ok | busy | unsupported | malformed | range | locked | inUse | noChannel | noSuch | absent | duplicate | limit
  | window | moveNeeded | moveTooSoon | noLane | capacity | quota | allPinned
  deriving DecidableEq, Repr

def Status.code : Status → Byte
  | .ok => 0x00
  | .busy => 0x01
  | .unsupported => 0x02
  | .malformed => 0x03
  | .range => 0x04
  | .locked => 0x05
  | .inUse => 0x06
  | .noChannel => 0x07
  | .noSuch => 0x08
  | .absent => 0x09
  | .duplicate => 0x0A
  | .limit => 0x0B
  | .window => 0x0C
  | .moveNeeded => 0x0D
  | .moveTooSoon => 0x0E
  | .noLane => 0x0F
  | .capacity => 0x10
  | .quota => 0x11
  | .allPinned => 0x12

/-- The requests of the part (R200). -/
inductive ReqKind where
  | planWrite | planRead | installSet | planLock | feedSet | memoPin | memoUnpin | memoReleaseAll | memoFlush
  | memoFlushUnpinned | memoSeed | memoRead | memoSnapshot | subscribe | unsubscribe | filterSet | portSetup | portReset
  | windowSet | severitySet | logRead | logClear | status
  deriving DecidableEq, Repr

def ReqKind.code : ReqKind → Byte
  | .planWrite => 0x10
  | .planRead => 0x11
  | .installSet => 0x12
  | .planLock => 0x13
  | .feedSet => 0x20
  | .memoPin => 0x30
  | .memoUnpin => 0x31
  | .memoReleaseAll => 0x32
  | .memoFlush => 0x33
  | .memoFlushUnpinned => 0x34
  | .memoSeed => 0x35
  | .memoRead => 0x36
  | .memoSnapshot => 0x37
  | .subscribe => 0x40
  | .unsubscribe => 0x41
  | .filterSet => 0x42
  | .portSetup => 0x43
  | .portReset => 0x44
  | .windowSet => 0x45
  | .severitySet => 0x50
  | .logRead => 0x51
  | .logClear => 0x52
  | .status => 0x60

/-- Every request of the part. -/
def ReqKind.all : List ReqKind :=
  [.planWrite, .planRead, .installSet, .planLock, .feedSet, .memoPin, .memoUnpin, .memoReleaseAll, .memoFlush,
    .memoFlushUnpinned, .memoSeed, .memoRead, .memoSnapshot, .subscribe, .unsubscribe, .filterSet, .portSetup,
    .portReset, .windowSet, .severitySet, .logRead, .logClear, .status]

/-- The request a kind byte names, if any. -/
def ReqKind.ofCode (k : Byte) : Option ReqKind := ReqKind.all.find? (fun r => r.code = k)

/-- The admission requests (R122). -/
def ReqKind.isAdmission : ReqKind → Bool
  | .subscribe | .unsubscribe | .filterSet | .portSetup | .portReset | .windowSet => true
  | .planWrite | .planRead | .installSet | .planLock | .feedSet | .memoPin | .memoUnpin | .memoReleaseAll | .memoFlush
  | .memoFlushUnpinned | .memoSeed | .memoRead | .memoSnapshot | .severitySet | .logRead | .logClear | .status => false

/-- Whether a body has the length R200 gives for its kind; a PID list's length is checked against its count. -/
def ReqKind.lengthFits (k : ReqKind) (body : List Byte) : Bool :=
  match k with
  | .planWrite => body.length = 24
  | .planRead => body.length = 1
  | .installSet => body.length = 8
  | .planLock => body.length = 0
  | .feedSet => body.length = 1
  | .memoPin => body.length = 1
  | .memoUnpin => body.length = 1
  | .memoReleaseAll => body.length = 0
  | .memoFlush => body.length = 0
  | .memoFlushUnpinned => body.length = 0
  | .memoSeed => body.length = 11
  | .memoRead => body.length = 1
  | .memoSnapshot => body.length = 0
  | .subscribe => decide (4 ≤ body.length) && decide (body.length = 4 + 2 * byteAt body 3)
  | .unsubscribe => body.length = 1
  | .filterSet => decide (2 ≤ body.length) && decide (body.length = 2 + 2 * byteAt body 1)
  | .portSetup => body.length = 6
  | .portReset => body.length = 0
  | .windowSet => body.length = 4
  | .severitySet => body.length = 2
  | .logRead => body.length = 1
  | .logClear => body.length = 1
  | .status => body.length = 3

/-- The kind of a response: the request's code plus 80h, or FFh where that code is 80h or above (R199). -/
def responseKind (k : Byte) : Byte := if k.toNat < 128 then k + 0x80 else 0xFF

/-! ## Control frames (R199) -/

/-- One bit of the check code: polynomial 1021h, most significant bit first. -/
def crcBit (c : BitVec 16) : BitVec 16 := if c.msb then (c <<< 1) ^^^ 0x1021#16 else c <<< 1

/-- One byte of the check code. -/
def crcByte (c : BitVec 16) (b : Byte) : BitVec 16 :=
  crcBit (crcBit (crcBit (crcBit (crcBit (crcBit (crcBit (crcBit (c ^^^ (b.setWidth 16 <<< 8)))))))))

/-- The check code of a run of bytes: initial value FFFFh, neither reflected nor inverted. -/
def crc16 (bytes : List Byte) : BitVec 16 := bytes.foldl crcByte 0xFFFF#16

/-- The two check bytes of a run of bytes. -/
def checkBytes (bytes : List Byte) : List Byte := enc16 (crc16 bytes).toNat

/-- The start byte. -/
def startByte : Byte := 0xA5

/-- A control frame. -/
def controlFrame (kind tag : Byte) (body : List Byte) : List Byte :=
  let inner := kind :: (enc16 body.length ++ tag :: body)
  startByte :: (inner ++ checkBytes inner)

/-- What the port finds at the front of its uplink bytes (R168). -/
inductive Scan where
  /-- No whole frame yet: these bytes are kept. -/
  | more (kept : List Byte)
  /-- A frame that fails its check: the search resumes at these bytes. -/
  | failed (rest : List Byte)
  /-- A frame that passes its check, and the bytes after it. -/
  | passed (kind tag : Byte) (body rest : List Byte)
  deriving DecidableEq, Repr

/-- The frame whose bytes after the start byte these are. -/
def scanBody (rest : List Byte) : Scan :=
  match rest with
  | kind :: lenHigh :: lenLow :: more =>
    let len := lenHigh.toNat * 256 + lenLow.toNat
    if 240 < len then .failed rest
    else
      match more with
      | tag :: tail =>
        if tail.length < len + 2 then .more (startByte :: rest)
        else if checkBytes (kind :: lenHigh :: lenLow :: tag :: tail.take len) = (tail.drop len).take 2 then
          .passed kind tag (tail.take len) (tail.drop (len + 2))
        else .failed rest
      | [] => .more (startByte :: rest)
  | _ => .more (startByte :: rest)

/-- The port's search for a frame: bytes before a start byte are skipped (R168, R199). -/
def scanFrame : List Byte → Scan
  | [] => .more []
  | b :: rest => if b = startByte then scanBody rest else scanFrame rest

/-! ## Request bodies (R200) -/

/-- The body of a PLAN_WRITE. -/
structure PlanWriteBody where
  index : Nat
  centre : Option Nat
  bandwidth : Nat
  labelLength : Nat
  labelBytes : List Byte
  deriving DecidableEq, Repr

def PlanWriteBody.read (body : List Byte) : PlanWriteBody :=
  { index := byteAt body 0, centre := given 0xFFFFFFFF (word32At body 1), bandwidth := word16At body 5,
    labelLength := byteAt body 7, labelBytes := (body.drop 8).take 16 }

/-- The body of an INSTALL_SET; a policy code that names neither policy is read as absent (R12). -/
structure InstallBody where
  moveInterval : Option Nat
  linger : Option Nat
  unsettle : Option Nat
  hold : Option Nat
  policy : Option StandbyPolicy
  deriving DecidableEq, Repr

def InstallBody.read (body : List Byte) : InstallBody :=
  { moveInterval := given 0xFFFF (word16At body 0), linger := given 0xFFFF (word16At body 2),
    unsettle := given 0xFFFF (word16At body 4), hold := given 0xFF (byteAt body 6),
    policy := StandbyPolicy.ofCode (byteAt body 7) }

/-- A field of an enumeration that may be not given: `none` where its code names nothing (R107, R197). -/
def enumField {α : Type} (ofCode : Nat → Option α) (n : Nat) : Option (Option α) :=
  if n = 0xFF then some none else (ofCode n).map some

/-- The body of a MEMO_SEED. A field whose code lies outside its set makes the body one that is refused RANGE. -/
structure SeedBody where
  offset : Option Int
  mode : Option CarrierMode
  guard : Option Guard
  constellation : Option Constellation
  codeRate : Option CodeRate
  cell : Option (BitVec 16)
  deriving DecidableEq, Repr

/-- A given cell identifier above 65,535 is out of range (R107). -/
def cellField (n : Nat) : Option (Option (BitVec 16)) :=
  if n = 0xFFFFFFFF then some none else if n ≤ 65535 then some (some (BitVec.ofNat 16 n)) else none

/-- A given offset is clamped into -500 to +500 kHz (R108). -/
def clampOffset (n : Int) : Int := if n < -500 then -500 else if 500 < n then 500 else n

def offsetField (n : Nat) : Option Int :=
  if n = 0xFFFF then none else some (clampOffset ((n : Int) - 32768))

/-- `none` where a given field lies outside its set of values (R107). -/
def SeedBody.read (body : List Byte) : Option SeedBody :=
  match enumField CarrierMode.ofCode (byteAt body 3), enumField Guard.ofCode (byteAt body 4),
    enumField Constellation.ofCode (byteAt body 5), enumField CodeRate.ofCode (byteAt body 6),
    cellField (word32At body 7) with
  | some mode, some guard, some constellation, some codeRate, some cell =>
    some { offset := offsetField (word16At body 1), mode, guard, constellation, codeRate, cell }
  | _, _, _, _, _ => none

/-- Puts a PID in its place in an ascending list without repeats. -/
def insertPid (x : Nat) : List Nat → List Nat
  | [] => [x]
  | y :: rest => if x < y then x :: y :: rest else if x = y then y :: rest else y :: insertPid x rest

/-- A PID list as R116 stores it: without 8191, without repeats, in ascending order. -/
def storedPids (pids : List Nat) : List Nat := (pids.filter (fun x => x ≠ 8191)).foldr insertPid []

/-- The `count` PIDs of a body that stand from `start` on. -/
def pidsAt (body : List Byte) (start count : Nat) : List Nat :=
  (List.range count).map (fun i => word16At body (start + 2 * i))

/-- A request's PID list as stored, or `none` where it fails R116: a count above 16 or a PID above 8191. -/
def readPids (body : List Byte) (countAt : Nat) : Option (List Nat) :=
  let count := byteAt body countAt
  let pids := pidsAt body (countAt + 1) count
  if 16 < count || pids.any (fun x => 8191 < x) then none else some (storedPids pids)

/-- A PID list in a response: its count and its PIDs. -/
def encPids (pids : List Nat) : List Byte := enc8 pids.length ++ pids.flatMap enc16

/-- The body of a PORT_SETUP; a standby code that names neither level is read as absent (R138). -/
structure PortSetupBody where
  capacity : Option Nat
  quota : Option Nat
  standby : Option StandbyLevel
  deriving DecidableEq, Repr

def PortSetupBody.read (body : List Byte) : PortSetupBody :=
  { capacity := given 0xFFFFFFFF (word32At body 0), quota := given 0xFF (byteAt body 4),
    standby := StandbyLevel.ofCode (byteAt body 5) }

/-! ## Record fields of responses and notices (R201, R202) -/

/-- The six signal fields and the stream rate, as a MEMO_READ answer gives them. -/
def encParams (f : Params) : List Byte :=
  encOpt16 (f.offset.map (fun x => (x + 32768).toNat)) ++ encOpt8 (f.mode.map CarrierMode.code) ++
    encOpt8 (f.guard.map Guard.code) ++ encOpt8 (f.constellation.map Constellation.code) ++
    encOpt8 (f.codeRate.map CodeRate.code) ++ encOpt32 (f.cell.map BitVec.toNat) ++ encOpt16 f.streamRate

/-- A memo's presence set (R201). -/
def presenceSet (f : Params) : Nat :=
  (if f.offset.isSome then 1 else 0) + (if f.mode.isSome then 2 else 0) + (if f.guard.isSome then 4 else 0) +
    (if f.constellation.isSome then 8 else 0) + (if f.codeRate.isSome then 16 else 0) +
    (if f.cell.isSome then 32 else 0) + (if f.streamRate.isSome then 64 else 0)

/-- A label field (R197). An absent label reads all-ones. The bytes beyond the length of a present one are a FREE VALUE
(DESIGN CHOICE, log entry 8): R197 says only that they are ignored. -/
def encLabel : Option (List Byte) → List Byte
  | none => List.replicate 17 0xFF
  | some text => enc8 text.length ++ (text ++ (List.range (16 - text.length)).map Config.labelFill)

/-- A plan entry's centre, bandwidth and label, all absent for an absent entry (R10). -/
def encEntry (e : Option PlanEntry) : List Byte :=
  encOpt32 (e.map PlanEntry.centre) ++ encOpt16 (e.map (fun x => x.bandwidth.khz)) ++ encLabel (e.bind PlanEntry.label)

/-- The five settings in the order and sizes of the request. -/
def encSettings (x : Settings) : List Byte :=
  enc16 x.moveInterval ++ enc16 x.linger ++ enc16 x.unsettle ++ enc8 x.hold ++ enc8 x.policy.code

/-- A log first record: 9 bytes, all FFh where it is absent. -/
def encFirst : Option FirstRecord → List Byte
  | none => List.replicate 9 0xFF
  | some r =>
    enc8 r.kind.index.val ++ enc8 r.severity.code ++ enc32 r.stamp.toNat ++ encOpt8 (r.port.map Port.code) ++
      encOpt8 (r.lane.map Fin.val) ++ encOpt8 (r.plan.map Fin.val)

/-- A next set as 4 bytes: bit k is set when kind k is in the set (R198). -/
def nextMask (kinds : List ErrorKind) : Nat :=
  (ErrorKind.all.filter (fun k => k ∈ kinds)).foldl (fun m k => m + 2 ^ k.index.val) 0

/-- A class's contents with a reading of the time base, as LOG_READ and LOG_CLEAR answer them. -/
def encClass (c : LogClass) (now : Time) : List Byte :=
  encFirst c.first ++ enc32 (nextMask c.nextSet) ++ enc16 c.count ++ enc32 now.toNat

/-- The kind of a notice's frame (R202). -/
def Notice.kind : Notice → Byte
  | .streamState _ _ => 0x01
  | .window _ _ _ => 0x02
  | .feed _ _ => 0x03
  | .log _ _ => 0x04

/-- The body of a notice's frame (R202). -/
def Notice.body : Notice → List Byte
  | .streamState id none => enc8 id.val ++ enc8 0xFF ++ enc8 0xFF ++ enc16 0xFFFF
  | .streamState id (some (state, lane, charge)) => enc8 id.val ++ enc8 state.code ++ enc8 lane.val ++ enc16 charge
  | .window edge state event => enc32 edge ++ enc8 state.code ++ enc8 event.code
  | .feed state retryCount => enc8 state.code ++ enc8 retryCount
  | .log cls record => enc8 cls.code ++ encFirst (some record)

/-- The 4-byte tag header of a packet frame (R203). -/
def tagHeader (e : Entry) : List Byte :=
  [0xB8, BitVec.ofNat 8 (e.port.code * 64 + e.id.val * 8 + e.lane.val),
    BitVec.ofNat 8 ((if e.errorFlag then 2 else 0) + (if e.firstAfter then 1 else 0)),
    e.continuity ++ (~~~ e.continuity)]

/-! ## Transport packets (R21) -/

/-- The PID of a packet: the five low bits of byte 1, then byte 2. -/
def pidOf (packet : List Byte) : Nat := (byteAt packet 1 % 32) * 256 + byteAt packet 2

/-- The packet with its error flag, the most significant bit of byte 1, set. -/
def withErrorFlag (packet : List Byte) : List Byte := packet.modify 1 (fun b => b ||| 0x80)

end Sys2Proof.Machine
end

