-- ==== Sys2Proof/Machine/Flags.lean ====
section
/-! DEFINITION. Every quantity the spec derives from the state and does not store: elapsed times and timers (R181), the
capacity arithmetic (R22 to R32), held entries and memos (R2, R92), the input's usability (R39), the front end's target
level (R34), the derived state of a subscription (R119), and the alert lines (R176). -/

namespace Sys2Proof.Machine

/-! ## Time (R181) -/

/-- The ms from a recorded reading to the present one, modulo 2^32. -/
def elapsed (now t : Time) : Nat := (now - t).toNat

/-- The reading a number of ms ahead. -/
def later (now : Time) (ms : Nat) : Time := now + BitVec.ofNat 32 ms

/-- Whether an expiry time has been reached. An expiry time lies less than 2^31 ms ahead when it is set, so a reading
whose distance past it is below 2^31 has reached it (DEDUCED, log entry 3). -/
def due (now t : Time) : Bool := decide (elapsed now t < 2147483648)

/-- Whether a timer runs and has expired. -/
def timerDue (now : Time) : Option Time → Bool
  | none => false
  | some t => due now t

/-- Whether a stamp is present and at least so many ms old. -/
def stampAge (now : Time) (ms : Nat) : Option Time → Bool
  | none => false
  | some t => decide (ms ≤ elapsed now t)

/-- The ms a running timer has still to run: 0 once its expiry is reached. -/
def msLeft (now t : Time) : Nat := if due now t then 0 else elapsed t now

/-- The part of a number of ms that has not passed since a stamp. -/
def msRemaining (now : Time) (ms : Nat) (t : Time) : Nat := ms - elapsed now t

/-- A counter that saturates at 4,294,967,295 (spec 0.2). -/
def satAdd (n k : Nat) : Nat := min (n + k) Config.counterMax

/-! ## Capacity arithmetic (chapter 2) -/

end Sys2Proof.Machine

namespace Sys2Proof

/-- B in the rate formula (R19). -/
def Bandwidth.mhz : Bandwidth → Nat
  | .b6 => 6
  | .b7 => 7
  | .b8 => 8

/-- Gd in the rate formula (R19). -/
def Guard.denominator : Guard → Nat
  | .g4 => 4
  | .g8 => 8
  | .g16 => 16
  | .g32 => 32

/-- b, the bits per carrier symbol (R19). -/
def Constellation.bits : Constellation → Nat
  | .p4 => 2
  | .p16 => 4
  | .p64 => 6

/-- CRn in the rate formula (R19). -/
def CodeRate.numerator : CodeRate → Nat
  | .r12 => 1
  | .r23 => 2
  | .r34 => 3
  | .r56 => 5
  | .r78 => 7

/-- CRd in the rate formula (R19). -/
def CodeRate.denominator : CodeRate → Nat
  | .r12 => 2
  | .r23 => 3
  | .r34 => 4
  | .r56 => 6
  | .r78 => 8

end Sys2Proof

namespace Sys2Proof.Machine

/-- The stream rate in kbit/s: floor(N / D) (R22). -/
def streamRateOf (b : Bandwidth) (g : Guard) (c : Constellation) (r : CodeRate) : Nat :=
  (15 * c.bits * r.numerator * 188 * g.denominator * b.mhz * 1000) /
    (2 * r.denominator * 208 * (g.denominator + 1) * 8)

/-- The provisional rate of a bandwidth (R24). -/
def provisionalRate (b : Bandwidth) : Nat := streamRateOf b .g32 .p64 .r78

/-- The link load of a stream: ceil(r × 192 / 188) (R25). -/
def linkLoad (rate : Nat) : Nat := (rate * 192 + 187) / 188

/-- A capacity rounded down to a thousand and clamped (R27). -/
def roundCapacity (n : Nat) : Nat := max Config.capacityLow (min Config.capacityHigh (n / 1000 * 1000))

/-- A lower edge made into a window position (R29). -/
def roundWindow (n : Nat) : Nat := max Config.windowLow (min Config.windowHigh (n / 1000 * 1000))

/-- A quota clamped into 8 to 64 (R146). -/
def clampQuota (n : Nat) : Nat := max Config.quotaLow (min Config.quotaHigh n)

/-- The occupied interval of a present entry, kHz (R2). -/
def PlanEntry.low (e : PlanEntry) : Nat := e.centre - e.bandwidth.khz / 2
def PlanEntry.high (e : PlanEntry) : Nat := e.centre + e.bandwidth.khz / 2

/-- Whether a channel fits the window at a position (R30). -/
def fits (position : Nat) (e : PlanEntry) : Bool :=
  decide (position + 4000 ≤ e.low) && decide (e.high ≤ position + 252000)

/-- The lowest lower edge and the highest upper edge of some channels, `x` among them (R31). -/
def lowestEdge (x : PlanEntry) (others : List PlanEntry) : Nat := others.foldl (fun m e => min m e.low) x.low
def highestEdge (x : PlanEntry) (others : List PlanEntry) : Nat := others.foldl (fun m e => max m e.high) x.high

/-- The placement of a set of channels made of `x` and the others; `none` is the result WINDOW (R31, R32). -/
def placement (x : PlanEntry) (others : List PlanEntry) : Option Nat :=
  let low := lowestEdge x others
  let span := highestEdge x others - low + 8000
  if 256000 < span then none
  else
    let slack := 256000 - span
    let ideal := low - 4000 - slack / 2
    let first := roundWindow ideal
    let second := roundWindow (first + 1000)
    if (x :: others).all (fits first) then some first
    else if (x :: others).all (fits second) then some second
    else none

/-! ## Lanes and plan entries -/

/-- The bandwidth of a channel, read from the plan (R9). -/
def State.bandwidth (s : State) (x : PlanIndex) : Option Bandwidth := (s.entry x).map PlanEntry.bandwidth

/-- A lane that is not FREE. -/
def State.laneBusy (s : State) (l : LaneId) : Bool := decide ((s.lane l).state ≠ .free)

/-- A lane that is lingering: not FREE, with share count 0 (R60). -/
def State.lingering (s : State) (l : LaneId) : Bool := s.laneBusy l && decide ((s.admLane l).share = 0)

/-- A lane that is not FREE and carries a channel (R2, R10): the lowest-numbered such lane. -/
def State.holdingLane (s : State) (x : PlanIndex) : Option LaneId :=
  allLanes.find? (fun l => s.laneBusy l && decide ((s.lane l).channel = some x))

/-- Some lane has share count above 0; a move is free when none has (R45). -/
def State.anyShared (s : State) : Bool := allLanes.any (fun l => decide (0 < (s.admLane l).share))

/-- The plan entry of a lane's channel. -/
def State.laneEntry (s : State) (l : LaneId) : Option PlanEntry := (s.lane l).channel.bind s.entry

/-- Whether a lane's channel fits a position. -/
def State.laneFits (s : State) (position : Nat) (l : LaneId) : Bool :=
  match s.laneEntry l with
  | none => true
  | some e => fits position e

/-! ## Memos (R91 to R95) -/

/-- The memo tagged with a channel (R94: there is at most one). -/
def State.memoOf (s : State) (x : PlanIndex) : Option MemoId :=
  allMemos.find? (fun m => decide ((s.memo m).tag = some x))

/-- The lane the store counts in use for a channel (R92). Where one lane's lookup for the channel was taken before another
lane's release of it, two are counted, and the lowest-numbered stands here (DESIGN CHOICE, log entry 30). -/
def State.inUseLane (s : State) (x : PlanIndex) : Option LaneId :=
  allLanes.find? (fun l => decide (s.store.inUse.get l = some x))

/-- Whether a memo is held: its tag is the channel of a lane the store counts as in use (R92). -/
def State.memoHeld (s : State) (m : MemoId) : Bool :=
  match (s.memo m).tag with
  | none => false
  | some x => (s.inUseLane x).isSome

/-- The victim: nearest the least-recent end, neither pinned nor held (R95). -/
def State.victim (s : State) : Option MemoId :=
  s.store.order.reverse.find? (fun m => !(s.memo m).pinned && !s.memoHeld m)

/-- A memo's position in the recency order (R94). -/
def State.memoPosition (s : State) (m : MemoId) : Nat := s.store.order.idxOf m

/-- The stream rate of some fields at a bandwidth: present when guard, constellation and code rate are (R62, R93); with
no bandwidth, of an absent plan entry, it is absent (DESIGN CHOICE, log entry 39). -/
def rateFrom (bandwidth : Option Bandwidth) (f : Params) : Option Nat :=
  match bandwidth, f.guard, f.constellation, f.codeRate with
  | some b, some g, some c, some r => some (streamRateOf b g c r)
  | _, _, _, _ => none

/-- The fields with the stream rate recomputed from them (R93). -/
def withRate (bandwidth : Option Bandwidth) (f : Params) : Params := { f with streamRate := rateFrom bandwidth f }

/-- The five fields that let a lane go from SENSE to VERIFY (R67). -/
def Params.holdsSignalling (f : Params) : Bool :=
  f.offset.isSome && f.mode.isSome && f.guard.isSome && f.constellation.isSome && f.codeRate.isSome

/-! ## Front end (chapter 3) -/

/-- The input is usable when the front end is ACTIVE and the feed is ON or OFF (R39). -/
def FrontEnd.usable (f : FrontEnd) : Bool :=
  decide (f.state = .active) && (decide (f.feed = .on) || decide (f.feed = .off))

/-- Target levels (R34). -/
inductive Target where
  | off | idle | active
  deriving DecidableEq, Repr

/-- The code of a target level, in the codes of the front-end state (R201). -/
def Target.code : Target → Nat
  | .off => FrontEndState.off.code
  | .idle => FrontEndState.idle.code
  | .active => FrontEndState.active.code

/-- Whether a port demands IDLE: it is ATTACHED and its standby level is IDLE; every other port demands OFF (R34). -/
def State.demandsIdle (s : State) (p : Port) : Bool :=
  decide ((s.port p).link = .attached) && decide ((s.admPort p).standby = .idle)

/-- The target level (R34). -/
def State.target (s : State) : Target :=
  if allLanes.any s.laneBusy then .active
  else
    match s.plan.settings.policy with
    | .shallow => if Port.all.any s.demandsIdle then .idle else .off
    | .deep => if Port.all.all s.demandsIdle then .idle else .off

/-- A move to another position is too soon: during a retune; or, when some lane has share count above 0, while the
last-move stamp is younger than the minimum move interval. The answer is the wait, absent during a retune (R45). -/
def State.moveTooSoon (s : State) : Option (Option Nat) :=
  if s.fe.state = .retuning then some none
  else if s.anyShared then
    match s.fe.lastMove with
    | none => none
    | some t =>
      if elapsed s.now t < s.plan.settings.moveInterval then
        some (some (s.plan.settings.moveInterval - elapsed s.now t))
      else none
  else none

/-! ## Subscriptions (chapter 6) -/

/-- The charge of a subscription on a channel: the link load of the exact rate where there is one, of the provisional
rate for the channel's bandwidth otherwise (R26, R133). A channel that is carried has a present entry (R9). For an
absent one there is no provisional rate and the highest stands here (DESIGN CHOICE, log entry 13). -/
def State.chargeFor (s : State) (x : PlanIndex) (rate : Option Nat) : Nat :=
  linkLoad (rate.getD (provisionalRate ((s.bandwidth x).getD .b8)))

/-- The derived state of a subscription: the first row of R119 that applies. By Law 1 one row always applies; without
it (the lane FREE) there is none. -/
def State.derivedState (s : State) (p : Port) (u : Sub) : Option SubState :=
  if (s.port p).link = .holding then some .held
  else if u.overload then some .overload
  else
    match (s.admLane u.lane).seen with
    | .acquire => some (if u.liveMark then .interrupted else .pending)
    | .locked => some .live
    | .coast => some .live
    | .holdoff => some .noSignal
    | .free => none

/-- A charge fits a port when the committed load plus it is at most the capacity (R28). -/
def AdmPort.fits (a : AdmPort) (charge : Nat) : Bool := decide (a.committed + charge ≤ a.capacity)

/-- The lowest id not in use on a port (R115). -/
def State.freeId (s : State) (p : Port) : Option SubId := allIds.find? (fun i => decide (s.sub p i = none))

/-- The number of subscriptions of a port. -/
def State.subCount (s : State) (p : Port) : Nat := (allIds.filter (fun i => (s.sub p i).isSome)).length

/-- The id of a port's subscription on a channel (R125). -/
def State.subOn (s : State) (p : Port) (x : PlanIndex) : Option SubId :=
  allIds.find? (fun i => decide ((s.sub p i).map Sub.channel = some x))

/-- Every port and id, in ascending order of port and then of id (R150). -/
def allKeys : List (Port × SubId) := Port.all.flatMap (fun p => allIds.map (fun i => (p, i)))

/-- The ports that hold a subscription whose lane field names a lane (R188). -/
def State.portHasLane (s : State) (p : Port) (l : LaneId) : Bool :=
  allIds.any (fun i => decide ((s.sub p i).map Sub.lane = some l))

/-! ## Pool, ports and log -/

/-- The slots 0 to 127. -/
def allSlots : List SlotId := List.finRange 128

/-- The free set (R143). -/
def State.freeSlots (s : State) : List SlotId := allSlots.filter (fun i => decide (s.slot i = none))

/-- A port's default quota: 32, or 128 less the other three quotas where that is smaller (R148, R179). -/
def State.otherQuotas (s : State) (p : Port) : Nat :=
  ((Port.all.filter (fun q => q ≠ p)).map s.quota).sum

def State.defaultQuota (s : State) (p : Port) : Nat := min Config.quotaDefault (Config.poolSlots - s.otherQuotas p)

/-- The request at the head of a port's queue that its owning block may take: passed to the block and not yet answered
(R170). -/
def State.headRequest (s : State) (p : Port) : Option Request :=
  match (s.port p).requests with
  | [] => none
  | r :: _ => if r.passed && (s.port p).responses.all (fun x => x.busy) then some r else none

/-- The body of that request when it is of a kind. -/
def State.headBody (s : State) (p : Port) (k : ReqKind) : Option (List Byte) :=
  match s.headRequest p with
  | none => none
  | some r => if r.kind = k.code then some r.body else none

/-- A SUBSCRIBE that names the index of an accepted PLAN_WRITE whose discard is not done stands back from the arbiter, so
that a written entry is subscribed without the memo of the old one (R8, R16; DEDUCED, log entry 26). -/
def State.standsBack (s : State) (r : Request) : Bool :=
  match s.plan.discard with
  | none => false
  | some d => decide (r.kind = ReqKind.subscribe.code) && decide (byteAt r.body 0 = d.index.val)

/-- Whether a port has an admission request waiting at the arbiter (R122). -/
def State.waitsAtArbiter (s : State) (p : Port) : Bool :=
  match s.headRequest p with
  | none => false
  | some r => ((ReqKind.ofCode r.kind).map ReqKind.isAdmission).getD false && !s.standsBack r

/-- The port whose admission request the controller takes next: round-robin from the port after the one served last
(R122). -/
def State.arbiterChoice (s : State) : Option Port := s.adm.lastServed.after.find? s.waitsAtArbiter

/-- The body of an admission request of a kind that the arbiter grants. -/
def State.granted (s : State) (p : Port) (k : ReqKind) : Option (List Byte) :=
  if s.arbiterChoice = some p then s.headBody p k else none

/-- A class is empty when its first record is absent (R185, Law 7). -/
def LogClass.isEmpty (c : LogClass) : Bool := c.first.isNone

/-- The alert line of a port is asserted while the major class is not empty and while its pulse runs (R176). -/
def State.alertAsserted (s : State) (p : Port) : Bool := !s.log.major.isEmpty || (s.port p).pulseEnd.isSome

/-- What a port's downlink is sending (R163): the frame in transmission. -/
def State.downlinkFrame (s : State) (p : Port) : Option (List Byte) :=
  match (s.port p).downlink with
  | .idle => none
  | .response => (s.port p).responses.head?.map (fun r => controlFrame r.kind r.tag r.body)
  | .notice n => some (controlFrame n.kind 0 n.body)
  | .packet =>
    match s.queue p with
    | [] => none
    | e :: _ => (s.slot e.slot).map (fun x => tagHeader e ++ x.packet)

end Sys2Proof.Machine
end

