-- ==== Sys2Proof/Machine/Ops.lean ====
section
/-! DEFINITION. The operations every block shares: the passing of time, messages from block to block, notices (R173),
responses (R170 to R172), the downlink's output arbiter (R175), and the taking of an occurrence by the fault log
(R186). -/

namespace Sys2Proof.Machine

/-- Changes the record of one lane. -/
def State.modLane (s : State) (l : LaneId) (f : Lane → Lane) : State := s.setLane l (f (s.lane l))

/-- Changes the record of one port. -/
def State.modPort (s : State) (p : Port) (f : PortRec → PortRec) : State := s.setPort p (f (s.port p))

/-- Changes one memo. -/
def State.modMemo (s : State) (m : MemoId) (f : Memo → Memo) : State := s.setMemo m (f (s.memo m))

/-- Changes what the admission controller holds of one lane. -/
def State.modAdmLane (s : State) (l : LaneId) (f : AdmLane → AdmLane) : State := s.setAdmLane l (f (s.admLane l))

/-- Changes what the admission controller holds of one port. -/
def State.modAdmPort (s : State) (p : Port) (f : AdmPort → AdmPort) : State := s.setAdmPort p (f (s.admPort p))

/-- Changes the front end. -/
def State.modFe (s : State) (f : FrontEnd → FrontEnd) : State := s.setFe (f s.fe)

/-- Takes an operation over each item of a list in turn. -/
def forEach {α : Type} (items : List α) (f : α → State → State) (s : State) : State :=
  items.foldl (fun t x => f x t) s

/-! ## Time (R181, R50; DESIGN CHOICE, log entry 2) -/

/-- One millisecond in which no command is taken: the time base rises by 1 and wraps (R181); the quiet time advances
while the front end is ACTIVE and is held at 60,000, where QUIET_TIME_EXPIRY takes it (R50); the ms in which the ADC
does not report again run down (R50). -/
def tick (s : State) : State :=
  { s with
    now := s.now + 1
    fe := { s.fe with
      quiet := if s.fe.state = .active then min (s.fe.quiet + 1) 60000 else s.fe.quiet
      clipMute := s.fe.clipMute - 1 } }

/-! ## Messages from block to block -/

/-- A block reports an occurrence to the fault log (R182). -/
def report (o : Occurrence) (s : State) : State := s.setMail { s.mail with toLog := s.mail.toLog ++ [o] }

/-- A lane's report: it carries the lane number and the lane's channel (R182). -/
def reportLane (kind : ErrorKind) (l : LaneId) (s : State) : State :=
  report { kind, port := none, lane := some l, plan := (s.lane l).channel } s

/-- A port's report of a kind that carries the port alone (R182). -/
def reportPort (kind : ErrorKind) (p : Port) (s : State) : State :=
  report { kind, port := some p, lane := none, plan := none } s

/-- A report that carries no field (R182). -/
def reportDevice (kind : ErrorKind) (s : State) : State := report { kind, port := none, lane := none, plan := none } s

/-- A lane sends the memo store a message. -/
def tellStore (l : LaneId) (m : StoreMsg) (s : State) : State :=
  s.setMail { s.mail with toStore := Tab.put s.mail.toStore l (s.mail.toStore.get l ++ [m]) }

/-- The memo store takes a lane's oldest message. -/
def popStore (l : LaneId) (s : State) : State :=
  s.setMail { s.mail with toStore := Tab.put s.mail.toStore l (s.mail.toStore.get l).tail }

/-- The memo store answers a lane. -/
def answerLane (l : LaneId) (m : LaneMsg) (s : State) : State :=
  s.setMail { s.mail with toLane := Tab.put s.mail.toLane l (s.mail.toLane.get l ++ [m]) }

/-- A lane takes its oldest answer. -/
def popAnswer (l : LaneId) (s : State) : State :=
  s.setMail { s.mail with toLane := Tab.put s.mail.toLane l (s.mail.toLane.get l).tail }

/-- A lane hands a packet to the pool (R79). -/
def handToPool (l : LaneId) (m : PacketMsg) (s : State) : State :=
  s.setMail { s.mail with toPool := Tab.put s.mail.toPool l (s.mail.toPool.get l ++ [m]) }

/-- The pool takes a lane's oldest packet. -/
def popPacket (l : LaneId) (s : State) : State :=
  s.setMail { s.mail with toPool := Tab.put s.mail.toPool l (s.mail.toPool.get l).tail }

/-- A lane reports to the admission controller. -/
def tellAdmission (m : AdmMsg) (s : State) : State := s.setMail { s.mail with toAdm := s.mail.toAdm ++ [m] }

/-- The admission controller takes the oldest report (R123). -/
def popAdmission (s : State) : State := s.setMail { s.mail with toAdm := s.mail.toAdm.tail }

/-- The lane a report comes from. -/
def AdmMsg.lane : AdmMsg → LaneId
  | .rate l _ => l
  | .state l _ => l
  | .toFree l => l

/-! ## Notices (R173) -/

/-- Kind and subject: the queue holds at most one notice for each. -/
inductive NoticeKey where
  | streamState (id : SubId)
  | window
  | feed
  | log (cls : ClassName)
  deriving DecidableEq, Repr

def Notice.key : Notice → NoticeKey
  | .streamState id _ => .streamState id
  | .window _ _ _ => .window
  | .feed _ _ => .feed
  | .log cls _ => .log cls

/-- A notice replaces in place the one of its kind and subject, or is appended at the tail (R173). -/
def enqueueNotice (n : Notice) : List Notice → List Notice
  | [] => [n]
  | m :: rest => if m.key = n.key then n :: rest else m :: enqueueNotice n rest

/-- A block raises a notice for a port; a port that is not ATTACHED discards it (R173). -/
def raiseNotice (n : Notice) (p : Port) (s : State) : State :=
  if (s.port p).link = .attached then s.modPort p (fun r => { r with notices := enqueueNotice n r.notices }) else s

/-- A notice for every port that is ATTACHED (R49, R57). -/
def raiseNoticeAll (n : Notice) (s : State) : State := forEach Port.all (raiseNotice n) s

/-! ## The downlink (R175) -/

/-- The output arbiter of one port: when the port is ATTACHED and its downlink IDLE it chooses the oldest response,
otherwise the oldest notice, which leaves its queue (R174), otherwise the head entry of the output queue. -/
def arbitrate (p : Port) (s : State) : State :=
  let r := s.port p
  if r.link = .attached ∧ r.downlink = .idle then
    match r.responses, r.notices, s.queue p with
    | _ :: _, _, _ => s.setPort p { r with downlink := .response }
    | [], n :: rest, _ => s.setPort p { r with downlink := .notice n, notices := rest }
    | [], [], _ :: _ => s.setPort p { r with downlink := .packet }
    | [], [], [] => s
  else s

/-- What ends every command: each port whose downlink is IDLE and which has something waiting starts to send. -/
def settle (s : State) : State := forEach Port.all arbitrate s

/-! ## Requests and responses (R170 to R172) -/

/-- Appends the answer to the request at the head of a port's queue to the response list (R170, R172). -/
def respond (p : Port) (status : Status) (fields : List Byte) (s : State) : State :=
  match (s.port p).requests with
  | [] => s
  | r :: _ =>
    s.modPort p (fun x =>
      { x with responses :=
          x.responses ++ [{ busy := false, kind := responseKind r.kind, tag := r.tag, body := status.code :: fields }] })

/-- The port examines the request that has reached the head (R171): it answers UNSUPPORTED or MALFORMED itself, answers
RANGE to a STATUS whose variant code names none of the four (R178), and passes any other request to its block. -/
def examineHead (p : Port) (s : State) : State :=
  match (s.port p).requests with
  | [] => s
  | r :: rest =>
    if r.passed || !((s.port p).responses.all (fun x => x.busy)) then s
    else
      match ReqKind.ofCode r.kind with
      | none => respond p .unsupported [] s
      | some k =>
        if !k.lengthFits r.body then reportPort .reqMalformed p (respond p .malformed [] s)
        else if k = .status ∧ StatusVariant.ofCode (byteAt r.body 0) = none then respond p .range [] s
        else s.modPort p (fun x => { x with requests := { r with passed := true } :: rest })

/-! ## The fault log takes an occurrence (R186 to R189) -/

/-- The severity of a kind (R183). -/
def FaultLog.severity (g : FaultLog) (k : ErrorKind) : Severity := g.severities.get k.index

/-- The class a severity enters (R183). -/
def Severity.cls : Severity → Option ClassName
  | .ignore => none
  | .advisory => some .minor
  | .degraded => some .minor
  | .serious => some .major
  | .critical => some .major

def FaultLog.cls (g : FaultLog) : ClassName → LogClass
  | .minor => g.minor
  | .major => g.major

def FaultLog.setCls (g : FaultLog) (n : ClassName) (c : LogClass) : FaultLog :=
  match n with
  | .minor => { g with minor := c }
  | .major => { g with major := c }

/-- Attributions (R182). -/
inductive Attribution where
  | port | lane | device
  deriving DecidableEq, Repr

/-- The attribution of each kind (R182). -/
def ErrorKind.attribution : ErrorKind → Attribution
  | .reqCheck => .port
  | .reqMalformed => .port
  | .acqFail => .lane
  | .lockLost => .lane
  | .memoMismatch => .lane
  | .memoUnavailable => .lane
  | .cellChanged => .lane
  | .signallingChange => .lane
  | .laneUnsettled => .lane
  | .rateOverload => .port
  | .queueOverflow => .port
  | .poolExhausted => .device
  | .feClip => .device
  | .feedFault => .device
  | .feedLatched => .device
  | .portDetached => .port
  | .portExpired => .port
  | .warmReset => .device

/-- The kinds reported as their port leaves ATTACHED: a notice of them reaches no port of their own (R188). -/
def ErrorKind.portLeaves : ErrorKind → Bool
  | .portDetached => true
  | .portExpired => true
  | .reqCheck => false
  | .reqMalformed => false
  | .acqFail => false
  | .lockLost => false
  | .memoMismatch => false
  | .memoUnavailable => false
  | .cellChanged => false
  | .signallingChange => false
  | .laneUnsettled => false
  | .rateOverload => false
  | .queueOverflow => false
  | .poolExhausted => false
  | .feClip => false
  | .feedFault => false
  | .feedLatched => false
  | .warmReset => false

/-- Whether a LOG notice goes to a port (R188), which is asked when the log takes the occurrence (DEDUCED, log entry 36); a
port that is not ATTACHED discards it. -/
def State.logNoticeFor (s : State) (o : Occurrence) (severity : Severity) (p : Port) : Bool :=
  match severity, o.kind.attribution with
  | .critical, _ => true
  | _, .device => true
  | _, .port => decide (o.port = some p) && !o.kind.portLeaves
  | _, .lane =>
    match o.lane with
    | none => false
    | some l => s.portHasLane p l

/-- A set of kinds with one more, in the order of the codes. -/
def addKind (k : ErrorKind) (kinds : List ErrorKind) : List ErrorKind :=
  ErrorKind.all.filter (fun j => decide (j = k) || decide (j ∈ kinds))

/-- Whether a severity raises a LOG notice when it fills a first record (R187). -/
def Severity.notifies : Severity → Bool
  | .ignore => false
  | .advisory => false
  | .degraded => true
  | .serious => true
  | .critical => true

/-- The log takes an occurrence (R186): an IGNORE one changes nothing; one that finds its class empty fills the first
record and, from DEGRADED up, raises a LOG notice (R187, R188); any other is added to the next set and counted. The
alert lines follow from the major class (R189, `State.alertAsserted`). -/
def takeOccurrence (o : Occurrence) (s : State) : State :=
  let severity := s.log.severity o.kind
  match severity.cls with
  | none => s
  | some n =>
    let c := s.log.cls n
    match c.first with
    | none =>
      let record : FirstRecord :=
        { kind := o.kind, severity, stamp := s.now, port := o.port, lane := o.lane, plan := o.plan }
      let s1 := s.setLog (s.log.setCls n { first := some record, nextSet := [], count := 1 })
      if severity.notifies then
        forEach (Port.all.filter (s1.logNoticeFor o severity)) (raiseNotice (.log n record)) s1
      else s1
    | some _ =>
      s.setLog (s.log.setCls n
        { c with nextSet := addKind o.kind c.nextSet, count := min (c.count + 1) Config.occurrenceMax })

end Sys2Proof.Machine
end

