-- ==== Sys2Proof/Machine/MemoOps.lean ====
section
/-! DEFINITION. The operations of the acquisition memo store (chapter 5): the recency order, allocation, discard,
flushes, and its record in an answer. -/

namespace Sys2Proof.Machine

/-- Make most recent: the memo moves to position 0 (R94). -/
def toFront (m : MemoId) (order : List MemoId) : List MemoId := m :: order.filter (fun x => x ≠ m)

/-- Move to least recent: the memo moves to position 15 (R94). -/
def toBack (m : MemoId) (order : List MemoId) : List MemoId := order.filter (fun x => x ≠ m) ++ [m]

/-- Makes a memo most recent. -/
def makeRecent (m : MemoId) (s : State) : State := s.setStore { s.store with order := toFront m s.store.order }

/-- Allocation of a memo for a channel (R95): its optional fields absent, its tag the channel, most recent. Its pin is
already clear. -/
def allocate (m : MemoId) (x : PlanIndex) (s : State) : State :=
  makeRecent m (s.setMemo m { tag := some x, pinned := false, fields := Params.absent })

/-- The memo of a channel, allocated where there is none: the memo, whether it was allocated now, and the state; `none`
where there is no victim. -/
def findOrAllocate (x : PlanIndex) (s : State) : Option (MemoId × Bool × State) :=
  match s.memoOf x with
  | some m => some (m, false, makeRecent m s)
  | none =>
    match s.victim with
    | some m => some (m, true, allocate m x s)
    | none => none

/-- The plan discard (R7): the memo of the index becomes empty and unpinned and moves to the least-recent end. -/
def discardMemo (x : PlanIndex) (s : State) : State :=
  match s.memoOf x with
  | none => s
  | some m =>
    let s1 := s.setMemo m Memo.empty
    s1.setStore { s1.store with order := toBack m s1.store.order }

/-- Writes fields into a memo and recomputes its rate with the bandwidth of the entry its tag names (R93, R98). -/
def writeMemo (f : Params → Params) (m : MemoId) (s : State) : State :=
  s.modMemo m (fun x => { x with fields := withRate (x.tag.bind s.bandwidth) (f x.fields) })

/-- Pins or unpins a memo. -/
def setPin (pinned : Bool) (m : MemoId) (s : State) : State := s.modMemo m (fun x => { x with pinned := pinned })

/-- Clears every memo that a test names and resets the order to the default (R105, R106). -/
def flushMemos (keep : MemoId → Bool) (s : State) : State :=
  let s1 := forEach (allMemos.filter (fun m => !keep m)) (fun m t => t.setMemo m Memo.empty) s
  s1.setStore { s1.store with order := defaultOrder }

/-- Clears the pin of every memo (R104, R105). -/
def clearPins (s : State) : State := forEach allMemos (setPin false) s

/-- A memo's record in an answer: number, pinned and held flags, position and seven fields (R109, R201). -/
def encMemo (m : MemoId) (s : State) : List Byte :=
  enc8 m.val ++ encFlags (s.memo m).pinned (s.memoHeld m) ++ enc8 (s.memoPosition m) ++ encParams (s.memo m).fields

/-- One entry of a snapshot: tag, pinned and held flags, position, presence set (R110, R201). -/
def encSnapshot (s : State) (m : MemoId) : List Byte :=
  encOpt8 ((s.memo m).tag.map Fin.val) ++ encFlags (s.memo m).pinned (s.memoHeld m) ++ enc8 (s.memoPosition m) ++
    enc8 (presenceSet (s.memo m).fields)

end Sys2Proof.Machine
end

