-- ==== Sys2Proof/Machine/LaneOps.lean ====
section
/-! DEFINITION. The operations of a demodulator lane (chapter 4): its timers, the writes to its parameter set and memo,
the stages, restart, HOLDOFF, lock, linger and release. -/

namespace Sys2Proof.Machine

/-! ## Durations, ms (R67 to R71, R75 to R77, R81, R82) -/

def senseMs : Nat := 50
def carrierMs : Nat := 250
def frameMs : Nat := 300
def verifyMs : Nat := 60
def streamMs : Nat := 200
def coastMs : Nat := 100
def retryMs : Nat := 5000
def recheckMs : Nat := 2000
def recheckUnsettledMs : Nat := 500
def unsettledMs : Nat := 60000

/-- A lane with no timer running and no read pending. -/
def Lane.stopTimers (x : Lane) : Lane :=
  { x with stageTimer := none, recheckTimer := none, readPending := false, coastTimer := none, retryTimer := none }

/-- The lane reports its state to the admission controller (R61). -/
def reportState (l : LaneId) (s : State) : State := tellAdmission (.state l (s.lane l).state.kind) s

/-- The lane reports the stream rate of its parameter set (R73). -/
def reportRate (l : LaneId) (s : State) : State := tellAdmission (.rate l (s.lane l).params.streamRate) s

/-- A write or clear of fields, made to the parameter set and to the lane's memo together, each with its rate
recomputed (R62, R98). -/
def writeFields (f : Params → Params) (l : LaneId) (s : State) : State :=
  let bandwidth := (s.lane l).channel.bind s.bandwidth
  let s1 := s.modLane l (fun x => { x with params := withRate bandwidth (f x.params) })
  match (s.lane l).memo with
  | none => s1
  | some m => writeMemo f m s1

/-- Enters a stage with its timer. -/
def enterStage (st : Stage) (ms : Nat) (l : LaneId) (s : State) : State :=
  s.modLane l (fun x => { x with state := .acquire st, stageTimer := some (later s.now ms) })

/-- The frequency a lane tunes to: its channel's plan centre, moved by the offset when its parameter set holds one
(R67). -/
def State.tuning (s : State) (x : Lane) : Option Int :=
  (x.channel.bind s.entry).map (fun e => (e.centre : Int) + x.params.offset.getD 0)

/-- Enters SENSE: the lane tunes to its channel and starts its stage timer (R67). -/
def enterSense (l : LaneId) (s : State) : State :=
  s.modLane l (fun x =>
    { x with state := .acquire .sense, stageTimer := some (later s.now senseMs), tuned := s.tuning x })

/-- A lane in ACQUIRE(WAIT) whose lookup and restart allocations are answered enters SENSE when the input is usable
(R66, R83). -/
def leaveWait (l : LaneId) (s : State) : State :=
  let x := s.lane l
  if x.state = .acquire .wait ∧ x.lookupPending = false ∧ x.restartsPending = 0 ∧ s.fe.usable = true then
    enterSense l s
  else s

/-- The front end tells every lane that the input is usable (R39, R66), in ascending lane number (DESIGN CHOICE, log
entry 29). -/
def allLeaveWait (s : State) : State := forEach allLanes leaveWait s

/-- A memo-less lane asks the store to allocate a memo for its channel, at every restart (R83, R101). A lane whose lookup
is unanswered is not memo-less in this sense. -/
def askRestart (l : LaneId) (s : State) : State :=
  let x := s.lane l
  match x.memo, x.channel with
  | none, some ch =>
    if x.lookupPending = false then
      tellStore l (.restart ch x.params) (s.modLane l (fun y => { y with restartsPending := y.restartsPending + 1 }))
    else s
  | _, _ => s

/-- The lane restarts its acquisition (R83): timers stopped, attempts 0, ACQUIRE(WAIT), parameter set and memo kept.
It reports its return to ACQUIRE unless it was in ACQUIRE already, and goes on to SENSE where R66 lets it. -/
def restartLane (l : LaneId) (s : State) : State :=
  let before := (s.lane l).state.kind
  let s1 := s.modLane l (fun x => { x.stopTimers with state := .acquire .wait, attempts := 0 })
  let s2 := askRestart l s1
  let s3 := if before = .acquire then s2 else reportState l s2
  leaveWait l s3

/-- Every lane that is not FREE restarts: the retune start (R43, R87). The lanes act, and their reports of one event reach
the admission controller, in ascending lane number (DESIGN CHOICE, log entry 29). -/
def restartBusyLanes (s : State) : State := forEach (allLanes.filter s.laneBusy) restartLane s

/-- Enters HOLDOFF(NO_SIGNAL) or HOLDOFF(FAILED) with the retry timer (R82). -/
def enterHoldoff (reason : HoldoffReason) (l : LaneId) (s : State) : State :=
  reportState l
    (s.modLane l (fun x =>
      { x.stopTimers with state := .holdoff reason, retryTimer := some (later s.now retryMs) }))

/-- What follows every timeout that counts an attempt (R71). -/
def countAttempt (l : LaneId) (s : State) : State :=
  let s1 := s.modLane l (fun x => { x with attempts := x.attempts + 1 })
  if (s1.lane l).attempts < 3 then enterSense l s1
  else reportLane .acqFail l (enterHoldoff .failed l s1)

/-- The period of the recheck timer, read when it starts (R77). -/
def Lane.recheckPeriod (x : Lane) : Nat := if x.unsettled.isSome then recheckUnsettledMs else recheckMs

/-- Enters LOCKED, from ACQUIRE(STREAM) or from COAST (R75). -/
def enterLocked (l : LaneId) (s : State) : State :=
  reportState l
    (s.modLane l (fun x =>
      { x.stopTimers with state := .locked, recheckTimer := some (later s.now x.recheckPeriod) }))

/-- Sets the UNSETTLED flag or restarts its 60,000 ms; a LOCKED lane whose recheck timer has more than 500 ms to run has
it restarted at 500 ms (R77, R80). -/
def setUnsettled (l : LaneId) (s : State) : State :=
  s.modLane l (fun x =>
    { x with
      unsettled := some (later s.now unsettledMs)
      recheckTimer :=
        match x.state, x.recheckTimer with
        | .locked, some t =>
          if recheckUnsettledMs < msLeft s.now t then some (later s.now recheckUnsettledMs) else some t
        | _, t => t })

/-- Writes a cell identifier, reporting CELL_CHANGED where a present one differs (R72). -/
def writeCell (cell : BitVec 16) (l : LaneId) (s : State) : State :=
  let s1 := writeFields (fun f => { f with cell := some cell }) l s
  match (s.lane l).params.cell with
  | none => s1
  | some old => if old = cell then s1 else reportLane .cellChanged l s1

/-- How many answers are still to come to the questions a lane has asked. -/
def Lane.unanswered (x : Lane) : Nat := x.staleAnswers + x.lookupPending.toNat + x.restartsPending

/-- The lane record after a release to FREE (R85): counters and error-rate window kept, everything else dropped. The
answers still to come are of no concern to the lane any more (R64). -/
def Lane.released (x : Lane) : Lane :=
  { x.stopTimers with
    state := .free, channel := none, memo := none, lookupPending := false, restartsPending := 0,
    staleAnswers := x.unanswered, attempts := 0, params := Params.absent, tuned := none, unsettled := none,
    lingerStart := none, windowsDone := [] }

/-- The lane becomes FREE and sends the store its release notice (R85, R100). -/
def freeLane (l : LaneId) (s : State) : State :=
  let s1 := s.modLane l Lane.released
  match (s.lane l).channel with
  | none => s1
  | some x => tellStore l (.release x) s1

/-- A release that the lane reports to the admission controller (R85, R141): a linger expiry, or a release at once. -/
def releaseLane (l : LaneId) (s : State) : State := tellAdmission (.toFree l) (freeLane l s)

/-- The admission controller records a lane as FREE: its channel and charging rate are dropped (R133, R141). -/
def recordFree (l : LaneId) (s : State) : State :=
  s.modAdmLane l (fun x => { x with channel := none, rate := none, seen := .free })

/-- The reports of a lane that the admission controller has not taken are dropped: they were made for a channel that
the lane, in the admission controller's own event, is leaving (DEDUCED, log entry 10). -/
def dropReports (l : LaneId) (s : State) : State :=
  s.setMail { s.mail with toAdm := s.mail.toAdm.filter (fun m => m.lane ≠ l) }

/-- A release within an event of the admission controller, which records the lane as FREE in that event (R42, R129). -/
def releaseWithin (l : LaneId) (s : State) : State := recordFree l (dropReports l (freeLane l s))

/-- The share count of a lane falls by 1. At 0 the lane lingers, or is released at once when the linger time is 0
(R84). -/
def lowerShare (l : LaneId) (s : State) : State :=
  let s1 := s.modAdmLane l (fun x => { x with share := x.share - 1 })
  if (s1.admLane l).share = 0 then
    if s1.plan.settings.linger = 0 then releaseLane l s1
    else s1.modLane l (fun x => { x with lingerStart := some s1.now })
  else s1

/-- The share count of a lane that is not FREE rises by 1, which ends a linger (R84). -/
def raiseShare (l : LaneId) (s : State) : State :=
  (s.modAdmLane l (fun x => { x with share := x.share + 1 })).modLane l (fun x => { x with lingerStart := none })

/-- A FREE lane is assigned a channel (R63): counters and error-rate window 0, attempts 0, ACQUIRE(WAIT), a lookup sent;
the answers to its earlier questions stay of no concern (R64).
The admission controller sets channel, share count 1, charging rate and its copy of the state (R129, R133). -/
def assignLane (l : LaneId) (x : PlanIndex) (rate : Option Nat) (s : State) : State :=
  let s1 := s.setLane l
    { Lane.fresh with
      state := .acquire .wait, channel := some x, lookupPending := true, staleAnswers := (s.lane l).unanswered }
  let s2 := (dropReports l s1).setAdmLane l { channel := some x, share := 1, rate, seen := .acquire }
  tellStore l (.lookup x) (reportState l s2)

/-- A lingering lane's linger expiry is due: the linger time now set has passed since its linger start (R14, R85). -/
def State.lingerDue (s : State) (l : LaneId) : Bool :=
  s.laneBusy l && stampAge s.now (s.plan.settings.linger * 1000) (s.lane l).lingerStart

/-- An overcurrent puts a lane that is not FREE into HOLDOFF(FEED) (R88). -/
def feedHoldoff (l : LaneId) (s : State) : State :=
  let before := (s.lane l).state
  match before with
  | .free => s
  | .holdoff .feed => s
  | .holdoff _ => s.modLane l (fun x => { x.stopTimers with state := .holdoff .feed })
  | _ => reportState l (s.modLane l (fun x => { x.stopTimers with state := .holdoff .feed }))

/-- The feed enters ON or OFF: every lane in HOLDOFF(FEED) restarts (R56, R88), and a lane that waits in ACQUIRE(WAIT)
goes on to SENSE where the input is now usable (R66); lane by lane in ascending number (DESIGN CHOICE, log entry 29). -/
def releaseFeedHoldoffs (s : State) : State :=
  allLeaveWait (forEach (allLanes.filter (fun l => decide ((s.lane l).state = .holdoff .feed))) restartLane s)

end Sys2Proof.Machine
end

