-- ==== Sys2Proof/Machine/FrontEndOps.lean ====
section
/-! DEFINITION. The operations of the front end (chapter 3): moving toward the target level, moves of the window, the
retune, and changes of the feed state. -/

namespace Sys2Proof.Machine

/-! ## Durations, ms (R33, R36, R38, R40, R43, R50, R52, R53) -/

def wakeFromOffMs : Nat := 120
def wakeFromIdleMs : Nat := 10
def idleSettleMs : Nat := 110
def residencyMs : Nat := 2000
def lastMoveKeepMs : Nat := 60000
def retuneMs : Nat := 40
def quietLimitMs : Nat := 60000
def clipMuteMs : Nat := 50
def feedWaitMs : Nat := 10000
def restoreWindowMs : Nat := 1000

/-! ## Power level (R35 to R38) -/

/-- The time a wake from IDLE takes: 10 ms from a settled window, otherwise 120 ms less the time spent in IDLE (R36). -/
def wakeFromIdle (now : Time) : Option Time → Nat
  | none => wakeFromIdleMs
  | some t => if idleSettleMs ≤ elapsed now t then wakeFromIdleMs else wakeFromOffMs - elapsed now t

/-- The minimum residency is over: the active-since stamp is dropped, or 2,000 ms have passed since it (R33, R38). -/
def State.residencyOver (s : State) : Bool :=
  match s.fe.activeSince with
  | none => true
  | some t => decide (residencyMs ≤ elapsed s.now t)

/-- The front end moves toward its target: from OFF and IDLE at once (R36), from ACTIVE once the minimum residency is
over (R38). WAKING and RETUNING wait for their completion. -/
def steer (s : State) : State :=
  match s.fe.state, s.target with
  | .off, .off => s
  | .off, .idle => s.modFe (fun f => { f with state := .idle, idleSince := some s.now })
  | .off, .active => s.modFe (fun f => { f with state := .waking, wakeEnd := some (later s.now wakeFromOffMs) })
  | .idle, .off => s.modFe (fun f => { f with state := .off, idleSince := none })
  | .idle, .idle => s
  | .idle, .active =>
    s.modFe (fun f =>
      { f with state := .waking, wakeEnd := some (later s.now (wakeFromIdle s.now f.idleSince)), idleSince := none })
  | .waking, _ => s
  | .retuning, _ => s
  | .active, .active => s
  | .active, .idle =>
    if s.residencyOver then s.modFe (fun f => { f with state := .idle, activeSince := none }) else s
  | .active, .off =>
    if s.residencyOver then s.modFe (fun f => { f with state := .off, activeSince := none }) else s

/-- The front end recomputes its target after an event that can change one of its inputs, and moves toward a new one; a
recomputation that leaves the target as it was before the event has no effect (R35). -/
def retarget (before : Target) (s : State) : State := if s.target = before then s else steer s

/-! ## Moves of the window (R42, R43) -/

/-- The lingering lanes whose channel does not fit a position. -/
def State.misfits (s : State) (position : Nat) : List LaneId :=
  allLanes.filter (fun l => s.lingering l && !s.laneFits position l)

/-- A move of the window to a position (R42): W and the last-move stamp; the lingering lanes that do not fit are
released and recorded as FREE; a retune where the front end was ACTIVE; a WINDOW notice to every ATTACHED port. -/
def moveWindow (position : Nat) (s : State) : State :=
  let s1 := s.modFe (fun f => { f with window := position, lastMove := some s.now })
  let s2 := forEach (s1.misfits position) releaseWithin s1
  let s3 :=
    if s.fe.state = .active then
      restartBusyLanes
        (s2.modFe (fun f => { f with state := .retuning, retuneEnd := some (later s2.now retuneMs) }))
    else s2
  raiseNoticeAll (.window position s3.fe.state .move) s3

/-! ## Antenna feed (R51 to R57) -/

/-- A FEED notice to every ATTACHED port, as the feed stands (R57). -/
def raiseFeedNotice (s : State) : State := raiseNoticeAll (.feed s.fe.feed s.fe.retryCount) s

/-- FEED_SET takes the feed to ON or OFF in a fresh series: retry count 0, last restore absent, any wait cancelled
(R51); the lanes in HOLDOFF(FEED) are released (R56), and a FEED notice is queued (R57). -/
def switchFeed (target : FeedState) (s : State) : State :=
  raiseFeedNotice
    (releaseFeedHoldoffs
      (s.modFe (fun f => { f with feed := target, retryCount := 0, lastRestore := none, feedWaitEnd := none })))

/-- What a FEED_SET does to the feed, by its present state (R51). ON takes LATCHED to ON also right after the overcurrent
that latched, where R58's table has it find ON or FAULT_WAIT and change nothing (DEDUCED, log entry 43). -/
def setFeed (on : Bool) (s : State) : State :=
  match s.fe.feed, on with
  | .off, true => switchFeed .on s
  | .off, false => s
  | .on, true => s
  | .on, false => switchFeed .off s
  | .faultWait, true => s
  | .faultWait, false => switchFeed .off s
  | .latched, true => switchFeed .on s
  | .latched, false => switchFeed .off s

/-- An event comes at most 1,000 ms after the last restore while the stamp of that restore is present (R52). -/
def State.withinRestore (s : State) : Bool :=
  match s.fe.lastRestore with
  | none => false
  | some t => decide (elapsed s.now t ≤ restoreWindowMs)

/-- The retry count as an overcurrent event settles it (R52). -/
def State.settledRetries (s : State) : Nat :=
  if 0 < s.fe.retryCount && !s.withinRestore then 1 else s.fe.retryCount

end Sys2Proof.Machine
end

