-- ==== Sys2Proof/Machine/AdmissionOps.lean ====
section
/-! DEFINITION. The operations of the admission controller (chapter 6): deriving and notifying subscription states,
re-admission and rate passes, removals, port defaults and the hold expiry, and the checks of a SUBSCRIBE. -/

namespace Sys2Proof.Machine

/-- The arbiter has served a port (R122). -/
def markServed (p : Port) (s : State) : State := s.setAdm { s.adm with lastServed := p }

/-- Derives the state of a subscription again (R120). A changed state is stored as the reported state, an entry into
LIVE sets the live mark and the first-after-interruption flag, and a notice is raised for a changed state, or always
where `always` says so (a creation, a changed charge, a link-up). -/
def rederive (always : Bool) (p : Port) (i : SubId) (s : State) : State :=
  match s.sub p i with
  | none => s
  | some u =>
    match s.derivedState p u with
    | none => s
    | some d =>
      let changed := decide (d ≠ u.reported)
      let enters := changed && decide (d = .live)
      let s1 := s.setSub p i
        (some { u with
          reported := d, liveMark := u.liveMark || enters, firstAfter := u.firstAfter || enters })
      if changed || always then raiseNotice (.streamState i (some (d, u.lane, u.charge))) p s1 else s1

/-- Derives again the state of every subscription on a lane (R120, R141). -/
def rederiveLane (l : LaneId) (s : State) : State :=
  forEach (allKeys.filter (fun k => decide ((s.sub k.1 k.2).map Sub.lane = some l)))
    (fun k => rederive false k.1 k.2) s

/-- Derives again the state of every subscription of a port (R120, R140), in ascending id order (DESIGN CHOICE, log entry
31). -/
def rederivePort (always : Bool) (p : Port) (s : State) : State := forEach allIds (rederive always p) s

/-- One step of re-admission: an OVERLOAD subscription whose stored charge fits is let back in (R135). -/
def readmitOne (p : Port) (i : SubId) (s : State) : State :=
  match s.sub p i with
  | none => s
  | some u =>
    if u.overload && (s.admPort p).fits u.charge then
      let s1 := s.modAdmPort p (fun a => { a with committed := a.committed + u.charge })
      rederive false p i (s1.setSub p i (some { u with overload := false }))
    else s

/-- Re-admission of a port, in ascending id order (R135). -/
def readmit (p : Port) (s : State) : State := forEach allIds (readmitOne p) s

/-- One subscription's turn in a rate pass (R134): the old charge off, the new charge stored, and either fitted again
or set OVERLOAD, which reports RATE_OVERLOAD when the flag was clear. -/
def recharge (l : LaneId) (p : Port) (i : SubId) (s : State) : State :=
  match s.sub p i with
  | none => s
  | some u =>
    if u.lane = l then
      let charge := s.chargeFor u.channel (s.admLane l).rate
      let s1 := if u.overload then s else s.modAdmPort p (fun a => { a with committed := a.committed - u.charge })
      let fit := (s1.admPort p).fits charge
      let s2 := if fit then s1.modAdmPort p (fun a => { a with committed := a.committed + charge }) else s1
      let s3 := s2.setSub p i (some { u with charge, overload := !fit })
      let s4 :=
        if !fit && !u.overload then
          report { kind := .rateOverload, port := some p, lane := some l, plan := some u.channel } s3
        else s3
      if charge ≠ u.charge ∨ u.overload ≠ !fit then rederive true p i s4 else s4
    else s

/-- A port's pass over a lane, and its re-admission when the committed load is lower than before (R134). -/
def ratePassPort (l : LaneId) (p : Port) (s : State) : State :=
  let s1 := forEach allIds (recharge l p) s
  if (s1.admPort p).committed < (s.admPort p).committed then readmit p s1 else s1

/-- A rate pass over a lane (R134). -/
def ratePass (l : LaneId) (s : State) : State := forEach Port.all (ratePassPort l) s

/-! ## The reports of the lanes (R123, R134, R141) -/

/-- A rate report that differs from the charging rate replaces it and starts a rate pass (R134). -/
def takeRate (l : LaneId) (rate : Option Nat) (s : State) : State :=
  if rate = (s.admLane l).rate then s else ratePass l (s.modAdmLane l (fun x => { x with rate }))

/-- The admission controller takes the oldest report of the lanes: a rate report (R134); a state change, which is copied
and from which the states of the lane's subscriptions are derived (R141); or a change to FREE, at which the lane's
channel and charging rate are dropped (R141). -/
def takeReport (m : AdmMsg) (s : State) : State :=
  match m with
  | .rate l rate => settle (takeRate l rate (popAdmission s))
  | .state l kind => settle (rederiveLane l ((popAdmission s).modAdmLane l (fun x => { x with seen := kind })))
  | .toFree l => recordFree l (popAdmission s)

/-- The admission controller takes every report given so far, oldest first: what comes before a link state change or a
hold expiry, which it takes in the order given with the lanes' reports (R123; DEDUCED, log entry 32). -/
def takeReports (s : State) : State := forEach s.mail.toAdm takeReport s

/-! ## Removals -/

/-- Removes a subscription (R131 steps 1 to 3): its charge unless it is OVERLOAD, its record, its lane share. -/
def removeSub (p : Port) (i : SubId) (u : Sub) (s : State) : State :=
  let s1 := if u.overload then s else s.modAdmPort p (fun a => { a with committed := a.committed - u.charge })
  lowerShare u.lane (s1.setSub p i none)

/-- The absent-state notice of a removed subscription (R121). -/
def raiseRemoved (p : Port) (i : SubId) (s : State) : State := raiseNotice (.streamState i none) p s

/-- Removes the subscription of an id, if there is one, with its absent-state notice (R139; a port that is not ATTACHED
discards the notice, R140). -/
def removeWithNotice (p : Port) (i : SubId) (s : State) : State :=
  match s.sub p i with
  | none => s
  | some u => raiseRemoved p i (removeSub p i u s)

/-- Removes every subscription of a port, in ascending id order (R139). -/
def removeAll (p : Port) (s : State) : State := forEach allIds (removeWithNotice p) s

/-! ## Entries of the output queues (R143, R144) -/

/-- The entry that names a slot is removed: the slot's reference count falls by 1, and at 0 the slot is free. -/
def dropRef (i : SlotId) (s : State) : State :=
  match s.slot i with
  | none => s
  | some x => if x.refs ≤ 1 then s.setSlot i none else s.setSlot i (some { x with refs := x.refs - 1 })

/-- The references of some removed entries. -/
def dropRefs (entries : List Entry) (s : State) : State := forEach entries (fun e => dropRef e.slot) s

/-- Whether the head entry of a port's queue is in transmission (R157). -/
def State.sendingPacket (s : State) (p : Port) : Bool := decide ((s.port p).downlink = .packet)

/-- Removes every entry of a port's queue (R158). -/
def emptyQueue (p : Port) (s : State) : State := dropRefs (s.queue p) (s.setQueue p [])

/-- Removes every entry of a port's queue that is not in transmission (R159), also where a send-complete just before has
put the entry in transmission, for which the table of R160 says that the rest is removed (DEDUCED, log entry 46). -/
def emptyUnsent (p : Port) (s : State) : State :=
  if s.sendingPacket p then dropRefs (s.queue p).tail (s.setQueue p ((s.queue p).take 1)) else emptyQueue p s

/-- Restores a port's settings: capacity, standby level and quota (R139, R148, R179). -/
def restoreDefaults (p : Port) (s : State) : State :=
  let s1 := s.modAdmPort p (fun a => { a with capacity := Config.capacityDefault, standby := .idle })
  s1.setPool { s1.pool with quotas := s1.pool.quotas.put p (s1.defaultQuota p) }

/-- A port's hold expiry (R140, R148, R166): UNATTACHED, its subscriptions removed without a notice, its queue emptied,
its defaults restored, PORT_EXPIRED reported. -/
def expireHold (p : Port) (s : State) : State :=
  let s1 := s.modPort p (fun r => { r with link := .unattached, holdStart := none })
  reportPort .portExpired p (restoreDefaults p (emptyQueue p (removeAll p s1)))

/-- A port's hold expiry is due: the detach hold time now set has passed since its hold start (R14, R166). -/
def State.holdDue (s : State) (p : Port) : Bool :=
  decide ((s.port p).link = .holding) && stampAge s.now (s.plan.settings.hold * 1000) (s.port p).holdStart

/-! ## SUBSCRIBE (R124 to R129) -/

/-- The body of a SUBSCRIBE that passes the range check of R124. -/
structure SubscribeBody where
  index : PlanIndex
  allowMove : Bool
  mode : ErrorMode
  pids : List Nat
  deriving DecidableEq, Repr

/-- `none` where the range check fails (R124). -/
def SubscribeBody.read (body : List Byte) : Option SubscribeBody :=
  match finOf 96 (byteAt body 0), ErrorMode.ofCode (byteAt body 2), readPids body 3 with
  | some index, some mode, some pids => some { index, allowMove := byteAt body 1 ≠ 0, mode, pids }
  | _, _, _ => none

/-- A lane chosen for a SUBSCRIBE (R127). -/
inductive LaneChoice where
  | share (l : LaneId)
  | free (l : LaneId)
  | reclaim (l : LaneId)
  deriving DecidableEq, Repr

/-- The lane a choice names. -/
def LaneChoice.lane : LaneChoice → LaneId
  | .share l => l
  | .free l => l
  | .reclaim l => l

/-- A lane that counts as FREE: a FREE one, or a lingering one that the pending move will release (R127). -/
def State.countsFree (s : State) (move : Option Nat) (l : LaneId) : Bool :=
  match move with
  | none => !s.laneBusy l
  | some position => !s.laneBusy l || (s.lingering l && !s.laneFits position l)

/-- How long a lane has lingered. -/
def State.lingerAge (s : State) (l : LaneId) : Nat :=
  match (s.lane l).lingerStart with
  | none => 0
  | some t => elapsed s.now t

/-- The lingering lane with the largest elapsed time; between equal ones the lower-numbered (R127). -/
def State.oldestLinger (s : State) : Option LaneId :=
  (allLanes.filter s.lingering).foldl
    (fun best l =>
      match best with
      | none => some l
      | some b => if s.lingerAge b < s.lingerAge l then some l else some b)
    none

/-- The fifth check: share, free lane, reclaim, or none (R127). -/
def State.chooseLane (s : State) (x : PlanIndex) (move : Option Nat) : Option LaneChoice :=
  match s.holdingLane x with
  | some l => some (.share l)
  | none =>
    match allLanes.find? (s.countsFree move) with
    | some l => some (.free l)
    | none => s.oldestLinger.map .reclaim

/-- The entries of the channels of the lanes whose share count is above 0 (R31, R126). -/
def State.sharedEntries (s : State) : List PlanEntry :=
  (allLanes.filter (fun l => decide (0 < (s.admLane l).share))).filterMap s.laneEntry

/-- The answer of the fourth check (R126): no move, a pending move to a position, or a refusal. -/
inductive WindowCheck where
  | stay
  | move (position : Nat)
  | window
  | moveNeeded (position : Nat)
  | tooSoon (wait : Option Nat)
  deriving DecidableEq, Repr

/-- The fourth check (R126). -/
def State.windowCheck (s : State) (e : PlanEntry) (allowMove : Bool) : WindowCheck :=
  if fits s.fe.window e then .stay
  else
    match placement e s.sharedEntries with
    | none => .window
    | some position =>
      if s.anyShared && !allowMove then .moveNeeded position
      else
        match s.moveTooSoon with
        | some wait => .tooSoon wait
        | none => .move position

/-- The exact rate a new subscription is charged from: a shared lane's charging rate, or for a free or reclaimed lane
the rate of the memo tagged with the channel (R128). -/
def State.subscribeRate (s : State) (x : PlanIndex) : LaneChoice → Option Nat
  | .share l => (s.admLane l).rate
  | _ => (s.memoOf x).bind (fun m => (s.memo m).fields.streamRate)

/-- What the checks of a SUBSCRIBE answer: a refusal with its status and fields, or what is admitted. -/
inductive SubscribeVerdict where
  | refuse (status : Status) (fields : List Byte)
  | accept (id : SubId) (choice : LaneChoice) (move : Option Nat) (rate : Option Nat) (charge : Nat)
  deriving DecidableEq, Repr

/-- The fifth and sixth checks, with the pending move, if any (R127, R128). -/
def State.laneAndCapacity (s : State) (p : Port) (id : SubId) (x : PlanIndex) (move : Option Nat) : SubscribeVerdict :=
  match s.chooseLane x move with
  | none => .refuse .noLane []
  | some choice =>
    let rate := s.subscribeRate x choice
    let charge := s.chargeFor x rate
    if (s.admPort p).fits charge then .accept id choice move rate charge
    else .refuse .capacity (enc16 charge ++ enc32 (s.admPort p).committed ++ enc32 (s.admPort p).capacity)

/-- The checks of R125 to R128 in their order. -/
def State.checkSubscribe (s : State) (p : Port) (r : SubscribeBody) : SubscribeVerdict :=
  match s.entry r.index with
  | none => .refuse .noChannel []
  | some e =>
    match s.subOn p r.index with
    | some i => .refuse .duplicate (enc8 i.val)
    | none =>
      match s.freeId p with
      | none => .refuse .limit []
      | some id =>
        match s.windowCheck e r.allowMove with
        | .window => .refuse .window []
        | .moveNeeded position => .refuse .moveNeeded (enc32 position)
        | .tooSoon wait => .refuse .moveTooSoon (encOpt32 wait)
        | .stay => s.laneAndCapacity p id r.index none
        | .move position => s.laneAndCapacity p id r.index (some position)

/-- The record of a new subscription (R115). -/
def newSub (r : SubscribeBody) (l : LaneId) (charge : Nat) (state : SubState) : Sub :=
  { channel := r.index, lane := l, mode := r.mode, pids := r.pids, charge, overload := false,
    liveMark := decide (state = .live), reported := state, continuity := 0, firstAfter := decide (state = .live),
    delivered := 0, marked := 0, errorDropped := 0, overflowDropped := 0 }

/-- Step 4 of R129, with the release half of a reclaim (step 2): a shared lane's count rises, any other is assigned. -/
def takeLane (choice : LaneChoice) (x : PlanIndex) (rate : Option Nat) (s : State) : State :=
  match choice with
  | .share l => raiseShare l s
  | .free l => assignLane l x rate s
  | .reclaim l => assignLane l x rate (releaseWithin l s)

/-- The changes of an accepted SUBSCRIBE, in the order of R129. -/
def createSub (p : Port) (r : SubscribeBody) (id : SubId) (choice : LaneChoice) (move : Option Nat) (rate : Option Nat)
    (charge : Nat) (s : State) : State :=
  let l := choice.lane
  let s1 := match move with
    | none => s
    | some position => moveWindow position s
  let s2 := takeLane choice r.index rate s1
  let draft := newSub r l charge .pending
  let state := (s2.derivedState p draft).getD .pending
  let s3 := (s2.modAdmPort p (fun a => { a with committed := a.committed + charge })).setSub p id
    (some (newSub r l charge state))
  let s4 := respond p .ok
    (enc8 id.val ++ enc8 l.val ++ enc16 charge ++ encFlag rate.isSome ++ enc32 s3.fe.window ++ encPids r.pids) s3
  retarget s.target (raiseNotice (.streamState id (some (state, l, charge))) p s4)

end Sys2Proof.Machine
end

