-- ==== Sys2Proof/Machine/PoolOps.lean ====
section
/-! DEFINITION. The operations of the packet pool (chapter 7): the outcome of a packet at each subscription, the storing
of a packet, and the quota cut. -/

namespace Sys2Proof.Machine

/-- Changes the subscription of a port and an id, if there is one. -/
def State.modSub (s : State) (p : Port) (i : SubId) (f : Sub → Sub) : State :=
  match s.sub p i with
  | none => s
  | some u => s.setSub p i (some (f u))

/-- What the pool decides for one subscription (R150). -/
inductive Decision where
  | passedOver
  | errorDropped
  | acceptedMarked
  | accepted
  deriving DecidableEq, Repr

/-- A PID passes a list that is empty or that holds it (R151). -/
def pidPasses (pids : List Nat) (pid : Nat) : Bool := decide (pids = []) || decide (pid ∈ pids)

/-- The decision of R150. -/
def State.decision (s : State) (p : Port) (u : Sub) (m : PacketMsg) : Decision :=
  if u.overload || decide ((s.port p).link ≠ .attached) || !pidPasses u.pids (pidOf m.bytes) then .passedOver
  else
    match m.outcome, u.mode with
    | .uncorrectable, .drop => .errorDropped
    | .uncorrectable, .mark => .acceptedMarked
    | .clean, _ => .accepted
    | .corrected _, _ => .accepted

/-- The decision for the subscription of a key, if it is on the packet's lane. -/
def State.decisionAt (s : State) (l : LaneId) (m : PacketMsg) (k : Port × SubId) : Option Decision :=
  match s.sub k.1 k.2 with
  | none => none
  | some u => if u.lane = l then some (s.decision k.1 u m) else none

/-- A port's queue is below its quota (R152). -/
def State.hasRoom (s : State) (p : Port) : Bool := decide ((s.queue p).length < s.quota p)

/-- The keys whose decision is one of two, in ascending order of port and id. -/
def State.keysWith (s : State) (l : LaneId) (m : PacketMsg) (d1 d2 : Decision) : List (Port × SubId) :=
  allKeys.filter (fun k => decide (s.decisionAt l m k = some d1) || decide (s.decisionAt l m k = some d2))

/-- The keys whose subscription accepts the packet, marked or not (R150). -/
def State.accepting (s : State) (l : LaneId) (m : PacketMsg) : List (Port × SubId) :=
  s.keysWith l m .accepted .acceptedMarked

/-- An error-dropped packet is counted (R150). -/
def countErrorDrop (k : Port × SubId) (s : State) : State :=
  s.modSub k.1 k.2 (fun u => { u with errorDropped := satAdd u.errorDropped 1 })

/-- An overflow-dropped packet is counted (R152, R155). -/
def countOverflow (k : Port × SubId) (s : State) : State :=
  s.modSub k.1 k.2 (fun u => { u with overflowDropped := satAdd u.overflowDropped 1 })

/-- A subscription whose queue is full counts the packet and QUEUE_OVERFLOW is reported for its port, with the lane and
the channel (R152). -/
def overflow (l : LaneId) (k : Port × SubId) (s : State) : State :=
  report { kind := .queueOverflow, port := some k.1, lane := some l, plan := (s.sub k.1 k.2).map Sub.channel }
    (countOverflow k s)

/-- Appends the entry of one accepted subscription (R153, R154). -/
def appendEntry (l : LaneId) (slot : SlotId) (marked : Bool) (k : Port × SubId) (s : State) : State :=
  match s.sub k.1 k.2 with
  | none => s
  | some u =>
    let entry : Entry :=
      { slot, port := k.1, id := k.2, lane := l, continuity := u.continuity, errorFlag := marked,
        firstAfter := u.firstAfter }
    (s.setQueue k.1 (s.queue k.1 ++ [entry])).setSub k.1 k.2
      (some { u with
        continuity := u.continuity + 1
        firstAfter := false
        marked := if marked then satAdd u.marked 1 else u.marked
        delivered := if marked then u.delivered else satAdd u.delivered 1 })

/-- The free slot the pool takes: any of the free ones, as the free value says (R143; DESIGN CHOICE, log entry 7). -/
def State.pickSlot (s : State) : Option SlotId :=
  s.freeSlots[Config.freeSlotPick s.slotPicks % s.freeSlots.length]?

/-- A packet that some subscriptions with room accept: stored once and appended to each queue (R153), or, where no slot
is free, dropped and counted for each (R155). -/
def storePacket (l : LaneId) (m : PacketMsg) (keys : List (Port × SubId)) (s : State) : State :=
  let marked := decide (m.outcome = .uncorrectable)
  match s.pickSlot with
  | none =>
    let channel := (s.admLane l).channel
    report { kind := .poolExhausted, port := none, lane := some l, plan := channel } (forEach keys countOverflow s)
  | some slot =>
    let packet := if marked then withErrorFlag m.bytes else m.bytes
    let s1 := { s.setSlot slot (some { packet, refs := keys.length }) with slotPicks := s.slotPicks + 1 }
    forEach keys (appendEntry l slot marked) s1

/-- One packet event, whole (R149 to R155). -/
def takePacket (l : LaneId) (m : PacketMsg) (s : State) : State :=
  if pidOf m.bytes = 8191 then s
  else
    let accepting := s.accepting l m
    let full := accepting.filter (fun k => !s.hasRoom k.1)
    let roomy := accepting.filter (fun k => s.hasRoom k.1)
    let s1 := forEach (s.keysWith l m .errorDropped .errorDropped) countErrorDrop s
    let s2 := forEach full (overflow l) s1
    if roomy = [] then s2 else storePacket l m roomy s2

/-- One entry the quota cut discards: its slot's count falls, and its subscription, if it still exists, counts an
overflow drop (R147). A subscription that has since been given the entry's port and id is the one counted (DESIGN CHOICE,
log entry 37). -/
def discardEntry (e : Entry) (s : State) : State := countOverflow (e.port, e.id) (dropRef e.slot s)

/-- A quota is applied; a queue longer than it is cut from its tail (R147). -/
def applyQuota (p : Port) (quota : Nat) (s : State) : State :=
  let q := s.queue p
  let s1 := s.setPool { s.pool with quotas := s.pool.quotas.put p quota, queues := s.pool.queues.put p (q.take quota) }
  forEach (q.drop quota) discardEntry s1

end Sys2Proof.Machine
end

