-- ==== Sys2Proof/Machine/Admission.lean ====
section
/-! DEFINITION. The admission controller's commands (chapter 6): the six admission requests, each taken when the arbiter
grants it (R122), and the reports of the lanes, taken in the order they were given (R123). -/

namespace Sys2Proof.Machine

/-- SUBSCRIBE (R124 to R129). -/
def subscribe (p : Port) (body : List Byte) (s : State) : State :=
  match SubscribeBody.read body with
  | none => respond p .range [] s
  | some r =>
    match s.checkSubscribe p r with
    | .refuse status fields => respond p status fields s
    | .accept id choice move rate charge => createSub p r id choice move rate charge s

def execSubscribe (p : Port) (s : State) : Host.Outcome State Fault Refusal :=
  match s.granted p .subscribe with
  | none => .next s
  | some body => .next (settle (subscribe p body (markServed p s)))

/-- An accepted UNSUBSCRIBE, in the order of R131. -/
def unsubscribeAt (p : Port) (i : SubId) (u : Sub) (s : State) : State :=
  let s1 := removeSub p i u s
  let s2 := respond p .ok (enc32 u.delivered ++ enc32 u.marked ++ enc32 u.errorDropped ++ enc32 u.overflowDropped) s1
  let s3 := raiseRemoved p i s2
  retarget s.target (if u.overload then s3 else readmit p s3)

/-- UNSUBSCRIBE (R131). -/
def unsubscribe (p : Port) (body : List Byte) (s : State) : State :=
  match finOf 6 (byteAt body 0) with
  | none => respond p .range [] s
  | some i =>
    match s.sub p i with
    | none => respond p .noSuch [] s
    | some u => unsubscribeAt p i u s

def execUnsubscribe (p : Port) (s : State) : Host.Outcome State Fault Refusal :=
  match s.granted p .unsubscribe with
  | none => .next s
  | some body => .next (settle (unsubscribe p body (markServed p s)))

/-- FILTER_SET (R132). -/
def filterSet (p : Port) (body : List Byte) (s : State) : State :=
  match finOf 6 (byteAt body 0), readPids body 1 with
  | some i, some pids =>
    match s.sub p i with
    | none => respond p .noSuch [] s
    | some u => respond p .ok (encPids pids) (s.setSub p i (some { u with pids }))
  | _, _ => respond p .range [] s

def execFilterSet (p : Port) (s : State) : Host.Outcome State Fault Refusal :=
  match s.granted p .filterSet with
  | none => .next s
  | some body => .next (settle (filterSet p body (markServed p s)))

/-- The capacity a PORT_SETUP leaves: the given one rounded and clamped, or the stored one (R138 step 1). -/
def PortSetupBody.capacityAfter (b : PortSetupBody) (a : AdmPort) : Nat :=
  match b.capacity with
  | none => a.capacity
  | some n => roundCapacity n

/-- The quota check of R146: the clamped quota with the other three exceeds 128. -/
def State.quotaRefused (s : State) (p : Port) : Option Nat → Bool
  | none => false
  | some n => decide (128 < s.otherQuotas p + clampQuota n)

/-- The entries that a quota leaves over (R146, R147). -/
def State.overQuota (s : State) (p : Port) : Option Nat → Nat
  | none => 0
  | some n => (s.queue p).length - clampQuota n

/-- A PORT_SETUP that passed its checks: every given field together, the front end's target recomputed from a changed
standby level (R35), then re-admission where the capacity rose, and the answer (R138 steps 4 and 5). The answer's number of
discarded entries (R146, R201) reads 0 where no quota is given or it is not lowered (DESIGN CHOICE, log entry 41). -/
def applySetup (p : Port) (b : PortSetupBody) (s : State) : State :=
  let before := s.admPort p
  let discarded := s.overQuota p b.quota
  let s1 := match b.quota with
    | none => s
    | some n => applyQuota p (clampQuota n) s
  let s2 := retarget s.target (s1.modAdmPort p (fun a =>
    { a with capacity := b.capacityAfter before, standby := b.standby.getD a.standby }))
  let s3 := if before.capacity < b.capacityAfter before then readmit p s2 else s2
  respond p .ok
    (enc32 (s3.admPort p).capacity ++ enc8 (s3.quota p) ++ enc8 (s3.admPort p).standby.code ++
      enc32 (s3.admPort p).committed ++ enc8 discarded) s3

/-- PORT_SETUP (R138, R146, R147). -/
def portSetup (p : Port) (body : List Byte) (s : State) : State :=
  let b := PortSetupBody.read body
  let a := s.admPort p
  if b.capacity.isSome && decide (b.capacityAfter a < a.committed) then respond p .capacity (enc32 a.committed) s
  else if s.quotaRefused p b.quota then respond p .quota [] s
  else applySetup p b s

def execPortSetup (p : Port) (s : State) : Host.Outcome State Fault Refusal :=
  match s.granted p .portSetup with
  | none => .next s
  | some body => .next (settle (portSetup p body (markServed p s)))

/-- PORT_RESET (R139, R148, R159). -/
def portReset (p : Port) (s : State) : State :=
  let removed := s.subCount p
  respond p .ok (enc8 removed) (retarget s.target (restoreDefaults p (emptyUnsent p (removeAll p s))))

def execPortReset (p : Port) (s : State) : Host.Outcome State Fault Refusal :=
  match s.granted p .portReset with
  | none => .next s
  | some _ => .next (settle (portReset p (markServed p s)))

/-- The lowest-numbered lane with share count above 0 whose channel does not fit a position (R46 step 3). -/
def State.sharedMisfit (s : State) (position : Nat) : Option LaneId :=
  allLanes.find? (fun l => decide (0 < (s.admLane l).share) && !s.laneFits position l)

/-- WINDOW_SET (R46). An edge of FFFFFFFFh, which R197 calls not given, is a number like any other and is clamped to
624,000 (DESIGN CHOICE, log entry 33). -/
def windowSet (p : Port) (body : List Byte) (s : State) : State :=
  let position := roundWindow (word32At body 0)
  if position = s.fe.window then respond p .ok (enc32 s.fe.window ++ enc8 0 ++ enc8 0) s
  else
    match s.sharedMisfit position with
    | some l => respond p .window (enc8 l.val) s
    | none =>
      match s.moveTooSoon with
      | some wait => respond p .moveTooSoon (encOpt32 wait) s
      | none =>
        respond p .ok (enc32 position ++ enc8 1 ++ enc8 (s.misfits position).length)
          (retarget s.target (moveWindow position s))

def execWindowSet (p : Port) (s : State) : Host.Outcome State Fault Refusal :=
  match s.granted p .windowSet with
  | none => .next s
  | some body => .next (settle (windowSet p body (markServed p s)))

/-- The oldest report to the admission controller. -/
def State.admMsg (s : State) : Option AdmMsg := s.mail.toAdm.head?

/-- RATE_REPORT (R134). -/
def execRateReport (l : LaneId) (s : State) : Host.Outcome State Fault Refusal :=
  match s.admMsg with
  | some (.rate k rate) => if k = l then .next (takeReport (.rate k rate) s) else .next s
  | _ => .next s

/-- LANE_STATE_CHANGE (R141): the copy of the lane's state, then the states of its subscriptions. -/
def execLaneStateChange (l : LaneId) (s : State) : Host.Outcome State Fault Refusal :=
  match s.admMsg with
  | some (.state k kind) => if k = l then .next (takeReport (.state k kind) s) else .next s
  | _ => .next s

/-- CHANGE_TO_FREE (R141): the lane's channel and charging rate are dropped and it is recorded as FREE. -/
def execChangeToFree (l : LaneId) (s : State) : Host.Outcome State Fault Refusal :=
  match s.admMsg with
  | some (.toFree k) => if k = l then .next (takeReport (.toFree k) s) else .next s
  | _ => .next s

end Sys2Proof.Machine
end

