-- ==== Sys2Proof/Machine/FrontEnd.lean ====
section
/-! DEFINITION. The front end's commands (chapter 3): FEED_SET, the events of its power level, window, attenuator and
antenna feed. An event whose time has not come, or which belongs to a state the front end is not in, does not happen:
the command then changes nothing (DESIGN CHOICE, log entry 4). -/

namespace Sys2Proof.Machine

/-- FEED_SET (R51, R56, R57). -/
def feedSet (p : Port) (body : List Byte) (s : State) : State :=
  match feedRequestOfCode (byteAt body 0) with
  | none => respond p .range [] s
  | some on =>
    let s1 := setFeed on s
    respond p .ok (enc8 s1.fe.feed.code ++ enc8 s1.fe.retryCount) s1

def execFeedSet (p : Port) (s : State) : Host.Outcome State Fault Refusal :=
  match s.headBody p .feedSet with
  | none => .next s
  | some body => .next (settle (feedSet p body s))

/-- WAKE_COMPLETION (R37): ACTIVE, active-since the completion time, the input usable where the feed allows it. -/
def execWakeCompletion (s : State) : Host.Outcome State Fault Refusal :=
  if s.fe.state = .waking ∧ timerDue s.now s.fe.wakeEnd = true then
    .next (allLeaveWait (s.modFe (fun f => { f with state := .active, wakeEnd := none, activeSince := some s.now })))
  else .next s

/-- What a retune completion does (R43, R49): ACTIVE, the input usable where the feed allows it, a WINDOW notice that
shows ACTIVE, and a step down where the target has fallen (R38). -/
def retuneCompletion (s : State) : State :=
  let s1 := allLeaveWait (s.modFe (fun f => { f with state := .active, retuneEnd := none }))
  steer (raiseNoticeAll (.window s1.fe.window s1.fe.state .retuneCompletion) s1)

/-- RETUNE_COMPLETION (R43). -/
def execRetuneCompletion (s : State) : Host.Outcome State Fault Refusal :=
  if s.fe.state = .retuning ∧ timerDue s.now s.fe.retuneEnd = true then .next (settle (retuneCompletion s)) else .next s

/-- IDLE_WINDOW_SETTLED (R33): the idle-since stamp is dropped 110 ms after it was recorded. -/
def execIdleWindowSettled (s : State) : Host.Outcome State Fault Refusal :=
  if s.fe.state = .idle ∧ stampAge s.now idleSettleMs s.fe.idleSince = true then
    .next (s.modFe (fun f => { f with idleSince := none }))
  else .next s

/-- MINIMUM_RESIDENCY_END (R33, R38): the active-since stamp is dropped 2,000 ms after it was recorded, and a step down
that waited for it is taken. -/
def execMinimumResidencyEnd (s : State) : Host.Outcome State Fault Refusal :=
  if stampAge s.now residencyMs s.fe.activeSince = true then
    .next (steer (s.modFe (fun f => { f with activeSince := none })))
  else .next s

/-- LAST_MOVE_STAMP_DROP (R40): 60,000 ms after the stamp was set. -/
def execLastMoveStampDrop (s : State) : Host.Outcome State Fault Refusal :=
  if stampAge s.now lastMoveKeepMs s.fe.lastMove = true then .next (s.modFe (fun f => { f with lastMove := none }))
  else .next s

/-- CLIP_EVENT (R50): in ACTIVE or RETUNING, and not within 50 ms of the report before, the setting rises by 2 dB up to
30, the quiet time returns to 0, and FE_CLIP is reported. -/
def execClipEvent (s : State) : Host.Outcome State Fault Refusal :=
  if (s.fe.state = .active ∨ s.fe.state = .retuning) ∧ s.fe.clipMute = 0 then
    .next (reportDevice .feClip
      (s.modFe (fun f => { f with attenuator := min (f.attenuator + 2) 30, quiet := 0, clipMute := clipMuteMs })))
  else .next s

/-- QUIET_TIME_EXPIRY (R50): at 60,000 ms of quiet time the setting falls by 2 dB if it is above 0, and the quiet time
starts again from 0. -/
def execQuietTimeExpiry (s : State) : Host.Outcome State Fault Refusal :=
  if quietLimitMs ≤ s.fe.quiet then
    .next (s.modFe (fun f => { f with attenuator := f.attenuator - 2, quiet := 0 }))
  else .next s

/-- An overcurrent with the feed ON (R52): the retry count is settled, the feed latches or waits, every lane that is not
FREE enters HOLDOFF(FEED) (R88), in ascending lane number (DESIGN CHOICE, log entry 29), the fault is reported and a FEED
notice queued (R57). -/
def overcurrent (s : State) : State :=
  let retries := s.settledRetries
  let latch := s.withinRestore && decide (retries = 3)
  let s1 := s.modFe (fun f =>
    { f with
      retryCount := retries
      feed := if latch then .latched else .faultWait
      feedWaitEnd := if latch then none else some (later s.now feedWaitMs) })
  let s2 := reportDevice (if latch then .feedLatched else .feedFault) s1
  raiseFeedNotice (forEach allLanes feedHoldoff s2)

/-- OVERCURRENT_EVENT (R52): in OFF, FAULT_WAIT and LATCHED the detector reports nothing. -/
def execOvercurrentEvent (s : State) : Host.Outcome State Fault Refusal :=
  if s.fe.feed = .on then .next (settle (overcurrent s)) else .next s

/-- The restore at the end of a FAULT_WAIT (R53, R56, R57). -/
def restoreFeed (s : State) : State :=
  let s1 := s.modFe (fun f =>
    { f with feed := .on, retryCount := f.retryCount + 1, lastRestore := some s.now, feedWaitEnd := none })
  raiseFeedNotice (releaseFeedHoldoffs s1)

/-- FEED_RESTORE (R53). -/
def execFeedRestore (s : State) : Host.Outcome State Fault Refusal :=
  if s.fe.feed = .faultWait ∧ timerDue s.now s.fe.feedWaitEnd = true then .next (settle (restoreFeed s)) else .next s

/-- LAST_RESTORE_STAMP_DROP (R53): once more than 1,000 ms have passed since the restore. -/
def execLastRestoreStampDrop (s : State) : Host.Outcome State Fault Refusal :=
  if stampAge s.now (restoreWindowMs + 1) s.fe.lastRestore = true then
    .next (s.modFe (fun f => { f with lastRestore := none }))
  else .next s

end Sys2Proof.Machine
end

