-- ==== Sys2Proof/Machine/Lanes.lean ====
section
/-! DEFINITION. The lanes' commands (chapter 4): answers of the memo store, demodulator events, and timer expiries. An
event that reaches a lane out of the state and stage it belongs to is discarded (R74), and a timer that is not running
or whose time has not come does not expire (DESIGN CHOICE, log entry 4): the command then changes nothing. -/

namespace Sys2Proof.Machine

/-- The lane is in a stage of ACQUIRE. -/
def State.inStage (s : State) (l : LaneId) (st : Stage) : Bool := decide ((s.lane l).state = .acquire st)

/-- The lane is in a stage of ACQUIRE whose timer has expired. -/
def State.stageExpired (s : State) (l : LaneId) (st : Stage) : Bool :=
  s.inStage l st && timerDue s.now (s.lane l).stageTimer

/-- The lane's oldest answer from the memo store. -/
def State.laneMsg (s : State) (l : LaneId) : Option LaneMsg := (s.mail.toLane.get l).head?

/-- An answer concerns the lane when the lane is not FREE, has the channel of the question, and asked it in its present
assignment (R63, R64; DEDUCED, log entry 21). -/
def State.answerConcerns (s : State) (l : LaneId) (x : PlanIndex) : Bool :=
  s.laneBusy l && decide ((s.lane l).channel = some x) && decide ((s.lane l).staleAnswers = 0)

/-- The lane discards an answer that does not concern it (R64): one answer fewer is still to come. -/
def discardAnswer (l : LaneId) (s : State) : State :=
  s.modLane l (fun x => { x with staleAnswers := x.staleAnswers - 1 })

/-- The lane takes the answer to its lookup (R64): memo and parameter set as the answer says, MEMO_UNAVAILABLE where
there was no victim, a rate report (R65), and on to SENSE where R66 lets it. -/
def takeLookupAnswer (l : LaneId) (answer : Option (MemoId × Params)) (s : State) : State :=
  let s1 := s.modLane l (fun x =>
    { x with
      lookupPending := false
      memo := answer.map (fun a => a.1)
      params := (answer.map (fun a => a.2)).getD Params.absent })
  let s2 := if answer = none then reportLane .memoUnavailable l s1 else s1
  leaveWait l (reportRate l s2)

/-- LOOKUP_ANSWER (R64). An answer that no longer concerns the lane is discarded. -/
def execLookupAnswer (l : LaneId) (s : State) : Host.Outcome State Fault Refusal :=
  match s.laneMsg l with
  | some (.lookup x answer) =>
    if s.answerConcerns l x = true then .next (takeLookupAnswer l answer (popAnswer l s))
    else .next (discardAnswer l (popAnswer l s))
  | _ => .next s

/-- The lane takes the answer to a restart allocation (R83): with a memo it keeps it in step from then on, without one
it stays memo-less; no rate report and no MEMO_UNAVAILABLE follow. It stays in WAIT until the last of its restart
allocations is answered (DEDUCED, log entry 11). -/
def takeRestartAnswer (l : LaneId) (answer : Option MemoId) (s : State) : State :=
  leaveWait l (s.modLane l (fun x => { x with restartsPending := x.restartsPending - 1, memo := answer }))

/-- RESTART_ALLOCATION_ANSWER (R83). -/
def execRestartAllocationAnswer (l : LaneId) (s : State) : Host.Outcome State Fault Refusal :=
  match s.laneMsg l with
  | some (.restart x answer) =>
    if s.answerConcerns l x = true then .next (takeRestartAnswer l answer (popAnswer l s))
    else .next (discardAnswer l (popAnswer l s))
  | _ => .next s

/-- SIGNAL_PRESENT (R67): from SENSE to VERIFY where the set holds the five signalling fields, else to CARRIER. -/
def execSignalPresent (l : LaneId) (s : State) : Host.Outcome State Fault Refusal :=
  if s.inStage l .sense = true then
    if (s.lane l).params.holdsSignalling = true then .next (enterStage .verify verifyMs l s)
    else .next (enterStage .carrier carrierMs l s)
  else .next s

/-- SENSE_TIMEOUT (R67). -/
def execSenseTimeout (l : LaneId) (s : State) : Host.Outcome State Fault Refusal :=
  if s.stageExpired l .sense = true then .next (enterHoldoff .noSignal l s) else .next s

/-- The carrier is found (R68): offset, mode and guard are written, FRAME is entered, and a rate that the new guard
completes is reported (R73). -/
def carrierFound (l : LaneId) (offset : Int) (mode : CarrierMode) (guard : Guard) (s : State) : State :=
  let s1 := writeFields (fun f => { f with offset := some offset, mode := some mode, guard := some guard }) l s
  let s2 := enterStage .frame frameMs l s1
  if (s2.lane l).params.streamRate = none then s2 else reportRate l s2

/-- CARRIER_FOUND (R68). -/
def execCarrierFound (l : LaneId) (offset : Int) (mode : CarrierMode) (guard : Guard) (s : State) :
    Host.Outcome State Fault Refusal :=
  if s.inStage l .carrier = true then .next (carrierFound l offset mode guard s) else .next s

/-- Clears fields, and reports the rate as absent where one was present and is cleared (R73). -/
def clearFields (f : Params → Params) (l : LaneId) (s : State) : State :=
  let s1 := writeFields f l s
  if (s.lane l).params.streamRate = none then s1 else reportRate l s1

/-- CARRIER_TIMEOUT (R68): offset, mode and guard are cleared and an attempt is counted. -/
def execCarrierTimeout (l : LaneId) (s : State) : Host.Outcome State Fault Refusal :=
  if s.stageExpired l .carrier = true then
    .next (countAttempt l (clearFields (fun f => { f with offset := none, mode := none, guard := none }) l s))
  else .next s

/-- The signalling is decoded (R69, R72): constellation, code rate and cell are written, the rate is reported, STREAM is
entered. -/
def frameDecoded (l : LaneId) (constellation : Constellation) (codeRate : CodeRate) (cell : BitVec 16) (s : State) :
    State :=
  let s1 := writeFields (fun f => { f with constellation := some constellation, codeRate := some codeRate }) l s
  enterStage .stream streamMs l (reportRate l (writeCell cell l s1))

/-- FRAME_DECODED (R69). -/
def execFrameDecoded (l : LaneId) (constellation : Constellation) (codeRate : CodeRate) (cell : BitVec 16) (s : State) :
    Host.Outcome State Fault Refusal :=
  if s.inStage l .frame = true then .next (frameDecoded l constellation codeRate cell s) else .next s

/-- FRAME_TIMEOUT (R69): constellation, code rate, cell and rate are cleared and an attempt is counted. -/
def execFrameTimeout (l : LaneId) (s : State) : Host.Outcome State Fault Refusal :=
  if s.stageExpired l .frame = true then
    .next (countAttempt l
      (clearFields (fun f => { f with constellation := none, codeRate := none, cell := none }) l s))
  else .next s

/-- SIGNALLING_MATCH (R70, R72). -/
def execSignallingMatch (l : LaneId) (cell : BitVec 16) (s : State) : Host.Outcome State Fault Refusal :=
  if s.inStage l .verify = true then .next (enterStage .stream streamMs l (writeCell cell l s)) else .next s

/-- What a mismatch and a VERIFY timeout do (R70): everything but the offset is cleared, MEMO_MISMATCH is reported, and
CARRIER is entered with the attempt count unchanged. -/
def mismatch (l : LaneId) (s : State) : State :=
  let s1 := clearFields
    (fun f =>
      { f with mode := none, guard := none, constellation := none, codeRate := none, cell := none }) l s
  enterStage .carrier carrierMs l (reportLane .memoMismatch l s1)

/-- SIGNALLING_MISMATCH (R70). -/
def execSignallingMismatch (l : LaneId) (s : State) : Host.Outcome State Fault Refusal :=
  if s.inStage l .verify = true then .next (mismatch l s) else .next s

/-- VERIFY_TIMEOUT (R70). -/
def execVerifyTimeout (l : LaneId) (s : State) : Host.Outcome State Fault Refusal :=
  if s.stageExpired l .verify = true then .next (mismatch l s) else .next s

/-- The stream is in sync (R71): LOCKED, and a lock notice from a lane that holds a memo (R99). -/
def streamSync (l : LaneId) (s : State) : State :=
  let s1 := enterLocked l s
  match (s.lane l).memo with
  | none => s1
  | some m => tellStore l (.lock m) s1

/-- STREAM_SYNC (R71). -/
def execStreamSync (l : LaneId) (s : State) : Host.Outcome State Fault Refusal :=
  if s.inStage l .stream = true then .next (streamSync l s) else .next s

/-- STREAM_TIMEOUT (R71): an attempt is counted and nothing is cleared. -/
def execStreamTimeout (l : LaneId) (s : State) : Host.Outcome State Fault Refusal :=
  if s.stageExpired l .stream = true then .next (countAttempt l s) else .next s

/-- SYNC_LOST (R75). -/
def execSyncLost (l : LaneId) (s : State) : Host.Outcome State Fault Refusal :=
  if (s.lane l).state = .locked then
    .next (reportState l
      (s.modLane l (fun x => { x.stopTimers with state := .coast, coastTimer := some (later s.now coastMs) })))
  else .next s

/-- SYNC_REGAINED (R76). -/
def execSyncRegained (l : LaneId) (s : State) : Host.Outcome State Fault Refusal :=
  if (s.lane l).state = .coast then .next (enterLocked l s) else .next s

/-- COAST_EXPIRY (R76): the lane restarts, reports LOCK_LOST and is UNSETTLED for 60,000 ms. -/
def execCoastExpiry (l : LaneId) (s : State) : Host.Outcome State Fault Refusal :=
  if (s.lane l).state = .coast ∧ timerDue s.now (s.lane l).coastTimer = true then
    .next (restartLane l (setUnsettled l (reportLane .lockLost l s)))
  else .next s

/-- RECHECK_TIMER_EXPIRY (R77): a signalling read is asked for and the timer starts again; a read still pending is
dropped for the new one. -/
def execRecheckTimerExpiry (l : LaneId) (s : State) : Host.Outcome State Fault Refusal :=
  if (s.lane l).state = .locked ∧ timerDue s.now (s.lane l).recheckTimer = true then
    .next (s.modLane l (fun x =>
      { x with readPending := true, recheckTimer := some (later s.now x.recheckPeriod) }))
  else .next s

/-- The four signalling fields read differ from the parameter set (R78). -/
def Params.differs (f : Params) (mode : CarrierMode) (guard : Guard) (constellation : Constellation)
    (codeRate : CodeRate) : Bool :=
  decide (f.mode ≠ some mode) || decide (f.guard ≠ some guard) || decide (f.constellation ≠ some constellation) ||
    decide (f.codeRate ≠ some codeRate)

/-- The four fields are written, SIGNALLING_CHANGE is reported, and the new rate is reported (R78). -/
def changeSignalling (l : LaneId) (mode : CarrierMode) (guard : Guard) (constellation : Constellation)
    (codeRate : CodeRate) (s : State) : State :=
  let s1 := writeFields
    (fun f =>
      { f with
        mode := some mode, guard := some guard, constellation := some constellation, codeRate := some codeRate }) l s
  reportRate l (reportLane .signallingChange l s1)

/-- A cell identifier that differs from a present one is written and reported CELL_CHANGED (R78); an equal one is not
written, and an absent one stays absent (DEDUCED, log entry 22). -/
def recheckCell (l : LaneId) (cell : BitVec 16) (s : State) : State :=
  match (s.lane l).params.cell with
  | none => s
  | some old => if old = cell then s else writeCell cell l s

/-- RECHECK (R78): discarded unless the lane is LOCKED with a read pending (R74). -/
def execRecheck (l : LaneId) (mode : CarrierMode) (guard : Guard) (constellation : Constellation) (codeRate : CodeRate)
    (cell : BitVec 16) (s : State) : Host.Outcome State Fault Refusal :=
  if (s.lane l).state = .locked ∧ (s.lane l).readPending = true then
    let s1 := s.modLane l (fun x => { x with readPending := false })
    if (s.lane l).params.differs mode guard constellation codeRate = true then
      .next (recheckCell l cell (changeSignalling l mode guard constellation codeRate s1))
    else .next (recheckCell l cell s1)
  else .next s

/-- The packet counters after a packet (R79). -/
def Lane.count (x : Lane) : PacketOutcome → Lane
  | .clean => { x with packets := satAdd x.packets 1 }
  | .corrected n =>
    { x with
      packets := satAdd x.packets 1
      correctedPackets := satAdd x.correctedPackets 1
      correctedBytes := satAdd x.correctedBytes n }
  | .uncorrectable => { x with packets := satAdd x.packets 1, uncorrectable := satAdd x.uncorrectable 1 }

/-- The error-rate window after a packet (R80): the 1,000th packet completes it; its uncorrectable count then waits for
ERROR_RATE_WINDOW_COMPLETE and the next packet opens a new window (DEDUCED, log entry 6). -/
def Lane.addToWindow (x : Lane) (outcome : PacketOutcome) : Lane :=
  let bad := x.windowUncorrectable + (if outcome = .uncorrectable then 1 else 0)
  if x.windowPackets + 1 < 1000 then { x with windowPackets := x.windowPackets + 1, windowUncorrectable := bad }
  else { x with windowPackets := 0, windowUncorrectable := 0, windowsDone := x.windowsDone ++ [bad] }

/-- LANE_PACKET (R79): counted, added to the window, handed to the pool. -/
def execLanePacket (l : LaneId) (outcome : PacketOutcome) (bytes : List Byte) (s : State) :
    Host.Outcome State Fault Refusal :=
  if (s.lane l).state = .locked then
    .next (handToPool l { bytes, outcome } (s.modLane l (fun x => (x.count outcome).addToWindow outcome)))
  else .next s

/-- A completed window with an uncorrectable count (R80): at or above the threshold the lane becomes or stays UNSETTLED,
and LANE_UNSETTLED is reported where the flag was clear. -/
def completeWindow (l : LaneId) (bad : Nat) (s : State) : State :=
  if s.plan.settings.unsettle ≤ bad then
    let s1 := setUnsettled l s
    if (s.lane l).unsettled = none then reportLane .laneUnsettled l s1 else s1
  else s

/-- ERROR_RATE_WINDOW_COMPLETE (R80). -/
def execErrorRateWindowComplete (l : LaneId) (s : State) : Host.Outcome State Fault Refusal :=
  match (s.lane l).windowsDone with
  | [] => .next s
  | bad :: rest => .next (completeWindow l bad (s.modLane l (fun x => { x with windowsDone := rest })))

/-- UNSETTLED_EXPIRY (R81). -/
def execUnsettledExpiry (l : LaneId) (s : State) : Host.Outcome State Fault Refusal :=
  if timerDue s.now (s.lane l).unsettled = true then .next (s.modLane l (fun x => { x with unsettled := none }))
  else .next s

/-- RETRY_EXPIRY (R82, R83): from HOLDOFF(NO_SIGNAL) and HOLDOFF(FAILED). -/
def execRetryExpiry (l : LaneId) (s : State) : Host.Outcome State Fault Refusal :=
  if ((s.lane l).state = .holdoff .noSignal ∨ (s.lane l).state = .holdoff .failed) ∧
      timerDue s.now (s.lane l).retryTimer = true then
    .next (restartLane l s)
  else .next s

/-- LINGER_EXPIRY (R85): the lane becomes FREE, and the front end recomputes its target (R35). -/
def execLingerExpiry (l : LaneId) (s : State) : Host.Outcome State Fault Refusal :=
  if s.lingerDue l = true then .next (retarget s.target (releaseLane l s)) else .next s

end Sys2Proof.Machine
end

