-- ==== Sys2Proof/Machine/Log.lean ====
section
/-! DEFINITION. The fault log's commands (chapter 9): LOG_OCCURRENCE, SEVERITY_SET, LOG_READ, LOG_CLEAR. -/

namespace Sys2Proof.Machine

/-- LOG_OCCURRENCE (R186): the log takes one of the waiting occurrences, the one at the given place; several that wait
are taken in any order (R193). -/
def execLogOccurrence (place : Nat) (s : State) : Host.Outcome State Fault Refusal :=
  match s.mail.toLog[place]? with
  | none => .next s
  | some o => .next (settle (takeOccurrence o (s.setMail { s.mail with toLog := s.mail.toLog.eraseIdx place })))

/-- SEVERITY_SET (R184): RANGE, then LOCKED, which still shows the stored severity. -/
def severitySet (p : Port) (body : List Byte) (s : State) : State :=
  match ErrorKind.ofCode (byteAt body 0), Severity.ofCode (byteAt body 1) with
  | some k, some v =>
    let old := s.log.severity k
    if s.plan.lock then respond p .locked (enc8 k.index.val ++ enc8 old.code) s
    else
      respond p .ok (enc8 k.index.val ++ enc8 v.code ++ enc8 old.code)
        (s.setLog { s.log with severities := Tab.put s.log.severities k.index v })
  | _, _ => respond p .range [] s

def execSeveritySet (p : Port) (s : State) : Host.Outcome State Fault Refusal :=
  match s.headBody p .severitySet with
  | none => .next s
  | some body => .next (settle (severitySet p body s))

/-- LOG_READ (R190). -/
def logRead (p : Port) (body : List Byte) (s : State) : State :=
  match ClassName.ofCode (byteAt body 0) with
  | none => respond p .range [] s
  | some n => respond p .ok (encClass (s.log.cls n) s.now) s

def execLogRead (p : Port) (s : State) : Host.Outcome State Fault Refusal :=
  match s.headBody p .logRead with
  | none => .next s
  | some body => .next (settle (logRead p body s))

/-- LOG_CLEAR (R191): the class's contents are answered and the class is emptied; the alert lines follow from the major
class (R189). The answer has the fields of R191 step 4 and R201, and no feed state, of which R191's last sentence speaks
(DEDUCED, log entry 44). -/
def logClear (p : Port) (body : List Byte) (s : State) : State :=
  match ClassName.ofCode (byteAt body 0) with
  | none => respond p .range [] s
  | some n => respond p .ok (encClass (s.log.cls n) s.now) (s.setLog (s.log.setCls n LogClass.empty))

def execLogClear (p : Port) (s : State) : Host.Outcome State Fault Refusal :=
  match s.headBody p .logClear with
  | none => .next s
  | some body => .next (settle (logClear p body s))

end Sys2Proof.Machine
end

