-- ==== Sys2Proof/Machine/Memo.lean ====
section
/-! DEFINITION. The acquisition memo store's commands (chapter 5): what it takes from the lanes (LOOKUP, LOCK_NOTICE,
RELEASE_NOTICE, RESTART_ALLOCATION) and the memo requests. The store takes a lane's messages in the order they were
sent (R97); of different lanes and ports it takes them in any order (R96). -/

namespace Sys2Proof.Machine

/-- A lane's oldest message to the store. -/
def State.storeMsg (s : State) (l : LaneId) : Option StoreMsg := (s.mail.toStore.get l).head?

/-- The store counts a lane as in use for a channel, or as not in use (R92). -/
def setInUse (l : LaneId) (x : Option PlanIndex) (s : State) : State :=
  s.setStore { s.store with inUse := Tab.put s.store.inUse l x }

/-- LOOKUP (R97): the lane is counted as in use, then a hit, a miss with an allocated memo, or no victim is answered
with the memo's fields. -/
def lookupMemo (l : LaneId) (x : PlanIndex) (s : State) : State :=
  let s1 := setInUse l (some x) s
  match findOrAllocate x s1 with
  | none => answerLane l (.lookup x none) s1
  | some (m, _, s2) => answerLane l (.lookup x (some (m, (s2.memo m).fields))) s2

def execLookup (l : LaneId) (s : State) : Host.Outcome State Fault Refusal :=
  match s.storeMsg l with
  | some (.lookup x) => .next (lookupMemo l x (popStore l s))
  | _ => .next s

/-- LOCK_NOTICE (R99): the lane's memo is made most recent. -/
def execLockNotice (l : LaneId) (s : State) : Host.Outcome State Fault Refusal :=
  match s.storeMsg l with
  | some (.lock m) => .next (makeRecent m (popStore l s))
  | _ => .next s

/-- RELEASE_NOTICE (R100): the lane is no longer counted as in use; memos, pins and order stay. -/
def execReleaseNotice (l : LaneId) (s : State) : Host.Outcome State Fault Refusal :=
  match s.storeMsg l with
  | some (.release _) => .next (setInUse l none (popStore l s))
  | _ => .next s

/-- Another lane has been assigned a channel since, and the store counts it in use for the channel: the channel's memo is
that lane's, and no other lane writes it (R98, R101). -/
def State.keptByAnother (s : State) (l : LaneId) (x : PlanIndex) : Bool :=
  allLanes.any (fun k => decide (k ≠ l ∧ (s.lane k).channel = some x ∧ s.store.inUse.get k = some x))

/-- RESTART_ALLOCATION (R101): the channel's memo, found or allocated, takes exactly the lane's fields. A lane that was
released since does not write into a memo that is another lane's by now (R62; DEDUCED, log entry 40). -/
def restartMemo (l : LaneId) (x : PlanIndex) (params : Params) (s : State) : State :=
  match findOrAllocate x s with
  | none => answerLane l (.restart x none) s
  | some (m, allocated, s1) =>
    answerLane l (.restart x (some m))
      (if !allocated && s.keptByAnother l x then s1 else writeMemo (fun _ => params) m s1)

def execRestartAllocation (l : LaneId) (s : State) : Host.Outcome State Fault Refusal :=
  match s.storeMsg l with
  | some (.restart x params) => .next (restartMemo l x params (popStore l s))
  | _ => .next s

/-- MEMO_PIN (R102). An absent entry is refused NO_CHANNEL also between the PLAN_WRITE that deletes it and its discard,
where R7's table has the pin act on the old memo or allocate one (DEDUCED, log entry 42). -/
def memoPin (p : Port) (body : List Byte) (s : State) : State :=
  match finOf 96 (byteAt body 0) with
  | none => respond p .range [] s
  | some x =>
    if s.entry x = none then respond p .noChannel [] s
    else
      match findOrAllocate x s with
      | none => respond p .allPinned [] s
      | some (m, allocated, s1) =>
        let former := if allocated then (s.memo m).tag else none
        respond p .ok (enc8 m.val ++ encFlag allocated ++ encOpt8 (former.map Fin.val)) (setPin true m s1)

def execMemoPin (p : Port) (s : State) : Host.Outcome State Fault Refusal :=
  match s.headBody p .memoPin with
  | none => .next s
  | some body => .next (settle (memoPin p body s))

/-- The memo a request names by its plan index, or the status that refuses it: RANGE, then ABSENT (R96, R103, R109). -/
def State.namedMemo (s : State) (body : List Byte) : Status ⊕ (PlanIndex × MemoId) :=
  match finOf 96 (byteAt body 0) with
  | none => .inl .range
  | some x =>
    match s.memoOf x with
    | none => .inl .absent
    | some m => .inr (x, m)

/-- MEMO_UNPIN (R103). -/
def memoUnpin (p : Port) (body : List Byte) (s : State) : State :=
  match s.namedMemo body with
  | .inl status => respond p status [] s
  | .inr (_, m) => respond p .ok (enc8 m.val) (makeRecent m (setPin false m s))

def execMemoUnpin (p : Port) (s : State) : Host.Outcome State Fault Refusal :=
  match s.headBody p .memoUnpin with
  | none => .next s
  | some body => .next (settle (memoUnpin p body s))

/-- MEMO_RELEASE_ALL (R104): the pins are cleared and counted. -/
def memoReleaseAll (p : Port) (s : State) : State :=
  respond p .ok (enc8 (allMemos.filter (fun m => (s.memo m).pinned)).length) (clearPins s)

def execMemoReleaseAll (p : Port) (s : State) : Host.Outcome State Fault Refusal :=
  match s.headBody p .memoReleaseAll with
  | none => .next s
  | some _ => .next (settle (memoReleaseAll p s))

/-- The memos that carry a tag. -/
def State.taggedMemos (s : State) : List MemoId := allMemos.filter (fun m => (s.memo m).tag.isSome)

/-- MEMO_FLUSH (R105): every memo that is not held is emptied, every pin cleared, the order reset; the answer counts
the tags removed and the held memos kept. -/
def memoFlush (p : Port) (s : State) : State :=
  let removed := (s.taggedMemos.filter (fun m => !s.memoHeld m)).length
  let kept := (s.taggedMemos.filter s.memoHeld).length
  respond p .ok (enc8 removed ++ enc8 kept) (clearPins (flushMemos s.memoHeld s))

def execMemoFlush (p : Port) (s : State) : Host.Outcome State Fault Refusal :=
  match s.headBody p .memoFlush with
  | none => .next s
  | some _ => .next (settle (memoFlush p s))

/-- MEMO_FLUSH_UNPINNED (R106): every memo neither pinned nor held is emptied, every pin kept, the order reset; the
answer counts the tags removed and the tagged memos kept. -/
def memoFlushUnpinned (p : Port) (s : State) : State :=
  let keep := fun m => (s.memo m).pinned || s.memoHeld m
  let removed := (s.taggedMemos.filter (fun m => !keep m)).length
  let kept := (s.taggedMemos.filter keep).length
  respond p .ok (enc8 removed ++ enc8 kept) (flushMemos keep s)

def execMemoFlushUnpinned (p : Port) (s : State) : Host.Outcome State Fault Refusal :=
  match s.headBody p .memoFlushUnpinned with
  | none => .next s
  | some _ => .next (settle (memoFlushUnpinned p s))

/-- The given fields of a seed over the memo's own (R108). -/
def SeedBody.over (b : SeedBody) (f : Params) : Params :=
  { f with
    offset := b.offset.or f.offset
    mode := b.mode.or f.mode
    guard := b.guard.or f.guard
    constellation := b.constellation.or f.constellation
    codeRate := b.codeRate.or f.codeRate
    cell := b.cell.or f.cell }

/-- A seed gives one of the fields the stream rate is computed from (R93). -/
def SeedBody.givesRate (b : SeedBody) : Bool := b.guard.isSome || b.constellation.isSome || b.codeRate.isSome

/-- An accepted seed's write (R108): with guard, constellation or code rate given the rate is recomputed, at the bandwidth
the plan then holds; otherwise it stays as it was (R93). Between a PLAN_WRITE that deletes the entry and its discard the
plan holds no bandwidth, and the recomputed rate is absent (DESIGN CHOICE, log entry 39). -/
def writeSeed (b : SeedBody) (m : MemoId) (s : State) : State :=
  if b.givesRate = true then writeMemo b.over m s else s.modMemo m (fun x => { x with fields := b.over x.fields })

/-- MEMO_SEED (R107, R108): RANGE, ABSENT and IN_USE in that order; an accepted seed writes the given fields. -/
def memoSeed (p : Port) (body : List Byte) (s : State) : State :=
  match SeedBody.read body with
  | none => respond p .range [] s
  | some b =>
    match s.namedMemo body with
    | .inl status => respond p status [] s
    | .inr (x, m) =>
      match s.inUseLane x with
      | some l => respond p .inUse (enc8 l.val) s
      | none =>
        let s1 := writeSeed b m s
        respond p .ok (encMemo m s1) s1

def execMemoSeed (p : Port) (s : State) : Host.Outcome State Fault Refusal :=
  match s.headBody p .memoSeed with
  | none => .next s
  | some body => .next (settle (memoSeed p body s))

/-- MEMO_READ (R109). -/
def memoRead (p : Port) (body : List Byte) (s : State) : State :=
  match s.namedMemo body with
  | .inl status => respond p status [] s
  | .inr (_, m) => respond p .ok (encMemo m s) s

def execMemoRead (p : Port) (s : State) : Host.Outcome State Fault Refusal :=
  match s.headBody p .memoRead with
  | none => .next s
  | some body => .next (settle (memoRead p body s))

/-- MEMO_SNAPSHOT (R110). -/
def execMemoSnapshot (p : Port) (s : State) : Host.Outcome State Fault Refusal :=
  match s.headBody p .memoSnapshot with
  | none => .next s
  | some _ => .next (settle (respond p .ok (allMemos.flatMap (encSnapshot s)) s))

end Sys2Proof.Machine
end

