-- ==== Sys2Proof/Machine/Plan.lean ====
section
/-! DEFINITION. The channel plan's commands (chapter 1): PLAN_WRITE, PLAN_DISCARD, PLAN_READ, INSTALL_SET, PLAN_LOCK.
The plan block takes one request at a time, the discard of an accepted PLAN_WRITE within it (R16): while a discard is
not done it takes no request. -/

namespace Sys2Proof.Machine

/-- The body of a plan request that the plan block takes now. -/
def State.planBody (s : State) (p : Port) (k : ReqKind) : Option (List Byte) :=
  if s.plan.discard.isSome then none else s.headBody p k

/-- A character of a label: 20h to 7Eh (R2). -/
def labelChar (b : Byte) : Bool := decide (0x20 ≤ b.toNat) && decide (b.toNat ≤ 0x7E)

/-- The label condition of R4: absent, or at most 16 characters of the range. -/
def PlanWriteBody.labelFits (w : PlanWriteBody) : Bool :=
  decide (w.labelLength = 0xFF) ||
    (decide (w.labelLength ≤ 16) && (w.labelBytes.take w.labelLength).all labelChar)

/-- The label as stored: a label given as absent or of zero length is absent (R4). -/
def PlanWriteBody.label (w : PlanWriteBody) : Option (List Byte) :=
  if w.labelLength = 0xFF ∨ w.labelLength = 0 then none else some (w.labelBytes.take w.labelLength)

/-- The occupied interval lies inside [164,000; 876,000] (R4). -/
def inPlanBand (centre : Nat) (b : Bandwidth) : Bool :=
  decide (164000 + b.khz / 2 ≤ centre) && decide (centre + b.khz / 2 ≤ 876000)

/-- The range check of R4: the index and the entry to be stored (`none` deletes), or `none` for RANGE. -/
def PlanWriteBody.check (w : PlanWriteBody) : Option (PlanIndex × Option PlanEntry) :=
  match finOf 96 w.index with
  | none => none
  | some x =>
    if w.bandwidth = 0 then some (x, none)
    else
      match Bandwidth.ofKhz w.bandwidth, w.centre with
      | some b, some centre =>
        if decide (centre % 250 = 0) && inPlanBand centre b && w.labelFits then
          some (x, some { centre, bandwidth := b, label := w.label })
        else none
      | _, _ => none

/-- A PLAN_WRITE (R5, R6): the checks in their order; an accepted write replaces the entry and asks the store for the
discard, and is answered when that is done. -/
def planWrite (p : Port) (body : List Byte) (s : State) : State :=
  match (PlanWriteBody.read body).check with
  | none => respond p .range [] s
  | some (x, e) =>
    if s.plan.lock then respond p .locked [] s
    else
      match s.holdingLane x with
      | some l => respond p .inUse (enc8 l.val) s
      | none =>
        s.setPlan { s.plan with
          entries := Tab.put s.plan.entries x e, discard := some { index := x, answerTo := some p } }

/-- A message that concerns a channel at the store: a lookup, a release or a restart allocation for it (R113). -/
def StoreMsg.names (x : PlanIndex) : StoreMsg → Bool
  | .lookup y => decide (y = x)
  | .release y => decide (y = x)
  | .restart y _ => decide (y = x)
  | .lock _ => false

/-- Some lane's lookup, release or restart allocation for a channel has not been taken by the store. -/
def State.storeAwaits (s : State) (x : PlanIndex) : Bool :=
  allLanes.any (fun l => (s.mail.toStore.get l).any (fun m => m.names x))

/-- A write that would be accepted waits until the store has taken what a released lane has sent it for that index, so
that the discard meets no lookup, restart or release for it and no memo carries an absent entry's index (R9, R113;
DEDUCED, log entry 34). -/
def State.writeWaits (s : State) (body : List Byte) : Bool :=
  match (PlanWriteBody.read body).check with
  | none => false
  | some (x, _) => !s.plan.lock && (s.holdingLane x).isNone && s.storeAwaits x

def execPlanWrite (p : Port) (s : State) : Host.Outcome State Fault Refusal :=
  match s.planBody p .planWrite with
  | none => .next s
  | some body => if s.writeWaits body = true then .next s else .next (settle (planWrite p body s))

/-- PLAN_DISCARD (R7): the store discards the memo of the written index, and the plan block answers OK with the entry as
stored and whether a memo was discarded (R6). -/
def planDiscard (d : DiscardAsk) (s : State) : State :=
  let discarded := (s.memoOf d.index).isSome
  let s1 := discardMemo d.index (s.setPlan { s.plan with discard := none })
  match d.answerTo with
  | none => s1
  | some p => respond p .ok (enc8 d.index.val ++ encEntry (s.entry d.index) ++ encFlag discarded) s1

def execPlanDiscard (s : State) : Host.Outcome State Fault Refusal :=
  match s.plan.discard with
  | none => .next s
  | some d => .next (settle (planDiscard d s))

/-- PLAN_READ (R10). -/
def planRead (p : Port) (body : List Byte) (s : State) : State :=
  match finOf 96 (byteAt body 0) with
  | none => respond p .range [] s
  | some x =>
    respond p .ok (enc8 x.val ++ encEntry (s.entry x) ++ encOpt8 ((s.holdingLane x).map Fin.val)) s

def execPlanRead (p : Port) (s : State) : Host.Outcome State Fault Refusal :=
  match s.planBody p .planRead with
  | none => .next s
  | some body => .next (settle (planRead p body s))

/-- A given value clamped into its range (R12). -/
def clampInto (low high : Nat) (stored : Nat) : Option Nat → Nat
  | none => stored
  | some n => max low (min high n)

/-- The record with the given fields stored (R12). -/
def InstallBody.apply (b : InstallBody) (x : Settings) : Settings :=
  { moveInterval := clampInto 0 60000 x.moveInterval b.moveInterval
    linger := clampInto 0 255 x.linger b.linger
    unsettle := clampInto 1 1000 x.unsettle b.unsettle
    hold := clampInto 1 60 x.hold b.hold
    policy := b.policy.getD x.policy }

/-- Every one of the five fields is absent (R17). -/
def InstallBody.nothingGiven (b : InstallBody) : Bool :=
  decide (b.moveInterval = none ∧ b.linger = none ∧ b.unsettle = none ∧ b.hold = none ∧ b.policy = none)

/-- A changed linger time is handed to the lanes: the linger expiries it makes due are taken at the change (R14), in
ascending lane number (DESIGN CHOICE, log entry 29). -/
def handLinger (before : Settings) (s : State) : State :=
  if s.plan.settings.linger = before.linger then s
  else forEach (allLanes.filter s.lingerDue) releaseLane s

/-- A changed detach hold time is handed to the ports: the hold expiries it makes due are taken at the change (R14), in
the order A, B, C, D, which decides the quotas they restore (R148; DESIGN CHOICE, log entry 35), each behind the reports
given before it (R123). -/
def handHold (before : Settings) (s : State) : State :=
  if s.plan.settings.hold = before.hold then s
  else forEach (Port.all.filter s.holdDue) (fun p t => expireHold p (takeReports t)) s

/-- INSTALL_SET (R12 to R15, R17). The front end's target is recomputed from the changed policy and from the lanes that
became FREE (R13, R35). Where one request changes both times, R14 does not order the expiries it makes due: every linger
expiry is taken before the hold expiries (DESIGN CHOICE, log entry 45). -/
def installSet (p : Port) (body : List Byte) (s : State) : State :=
  let b := InstallBody.read body
  let before := s.plan.settings
  if s.plan.lock && !b.nothingGiven then respond p .locked (encSettings before) s
  else
    let s1 := s.setPlan { s.plan with settings := b.apply before }
    respond p .ok (encSettings (b.apply before)) (retarget s.target (handHold before (handLinger before s1)))

def execInstallSet (p : Port) (s : State) : Host.Outcome State Fault Refusal :=
  match s.planBody p .installSet with
  | none => .next s
  | some body => .next (settle (installSet p body s))

/-- PLAN_LOCK (R17). -/
def execPlanLock (p : Port) (s : State) : Host.Outcome State Fault Refusal :=
  match s.planBody p .planLock with
  | none => .next s
  | some _ => .next (settle (respond p .ok [] (s.setPlan { s.plan with lock := true })))

end Sys2Proof.Machine
end

