-- ==== Sys2Proof/Machine/Pool.lean ====
section
/-! DEFINITION. The packet pool's commands (chapter 7): PACKET_EVENT and SEND_COMPLETE. -/

namespace Sys2Proof.Machine

/-- PACKET_EVENT (R149 to R155): the pool takes the oldest packet a lane has handed it; packets of different lanes are
taken in any order. -/
def execPacketEvent (l : LaneId) (s : State) : Host.Outcome State Fault Refusal :=
  match (s.mail.toPool.get l).head? with
  | none => .next s
  | some m => .next (settle (takePacket l m (popPacket l s)))

/-- SEND_COMPLETE (R157): the head entry, in transmission, is removed and its slot's count falls. The arbiter chooses the
next frame at this event (R175), so that the next entry may be in transmission when a PORT_RESET that comes together with
it is taken, which then keeps that entry (R159, R160; DEDUCED, log entry 46). -/
def packetSent (p : Port) (s : State) : State :=
  let s1 := s.modPort p (fun r => { r with downlink := .idle })
  match s.queue p with
  | [] => s1
  | e :: rest => dropRef e.slot (s1.setQueue p rest)

/-- With no entry in transmission the event is discarded (R160). -/
def execSendComplete (p : Port) (s : State) : Host.Outcome State Fault Refusal :=
  if (s.port p).downlink = .packet then .next (settle (packetSent p s)) else .next s

end Sys2Proof.Machine
end

