-- ==== Sys2Proof/Machine/Ports.lean ====
section
/-! DEFINITION. The riser ports' commands (chapter 8): uplink frames, send-completes, the alert pulse, and the link
events. -/

namespace Sys2Proof.Machine

/-- A frame that fails its check (R168): counted, REQ_CHECK reported, the alert line pulsed for 1 ms (R176). -/
def failCheck (p : Port) (s : State) : State :=
  reportPort .reqCheck p
    (s.modPort p (fun r =>
      { r with checkFailures := satAdd r.checkFailures 1, pulseEnd := some (later s.now 1) }))

/-- A request arrives (R169): appended to a queue of fewer than 4, and examined if it is the head (R171); otherwise
answered BUSY, or lost when four BUSY answers wait already. -/
def arrive (p : Port) (kind tag : Byte) (body : List Byte) (s : State) : State :=
  let r := s.port p
  if r.requests.length < 4 then
    examineHead p
      (s.setPort p { r with requests := r.requests ++ [{ kind, tag, body, passed := false }] })
  else if (r.responses.filter (fun x => x.busy)).length < 4 then
    s.setPort p
      { r with
        responses := r.responses ++ [{ busy := true, kind := responseKind kind, tag, body := [Status.busy.code] }]
        busyAnswers := satAdd r.busyAnswers 1 }
  else s.setPort p { r with requestsLost := satAdd r.requestsLost 1 }

/-- The port reads its uplink bytes frame by frame (R168): each whole frame in turn, until no whole frame is left. The
fuel is the number of bytes, since each turn takes at least one. -/
def readUplink (p : Port) : Nat → List Byte → State → State
  | 0, bytes, s => s.modPort p (fun r => { r with uplink := bytes })
  | fuel + 1, bytes, s =>
    match scanFrame bytes with
    | .more kept => s.modPort p (fun r => { r with uplink := kept })
    | .failed rest => readUplink p fuel rest (failCheck p s)
    | .passed kind tag body rest => readUplink p fuel rest (arrive p kind tag body s)

/-- UPLINK_FRAME (R168, R169): bytes arrive on the uplink of an ATTACHED port. -/
def execUplinkFrame (p : Port) (bytes : List Byte) (s : State) : Host.Outcome State Fault Refusal :=
  if (s.port p).link = .attached then
    let stream := (s.port p).uplink ++ bytes
    .next (settle (readUplink p (stream.length + 1) stream s))
  else .next s

/-- RESPONSE_SEND_COMPLETE (R170, R175): the response sent, the oldest of the list, is removed; where it answered a
queued request, the request leaves the queue and the next one is examined and passed to its block. -/
def responseSent (p : Port) (s : State) : State :=
  let r := s.port p
  match r.responses with
  | [] => s.setPort p { r with downlink := .idle }
  | x :: rest =>
    if x.busy then s.setPort p { r with responses := rest, downlink := .idle }
    else examineHead p (s.setPort p { r with responses := rest, requests := r.requests.tail, downlink := .idle })

def execResponseSendComplete (p : Port) (s : State) : Host.Outcome State Fault Refusal :=
  if (s.port p).downlink = .response then .next (settle (responseSent p s)) else .next s

/-- Whether the downlink is sending a notice. -/
def Downlink.sendsNotice : Downlink → Bool
  | .idle => false
  | .response => false
  | .notice _ => true
  | .packet => false

/-- NOTICE_SEND_COMPLETE (R174, R175): it changes nothing further than the downlink. -/
def execNoticeSendComplete (p : Port) (s : State) : Host.Outcome State Fault Refusal :=
  if (s.port p).downlink.sendsNotice = true then
    .next (settle (s.modPort p (fun r => { r with downlink := .idle })))
  else .next s

/-- ALERT_PULSE_END (R176). -/
def execAlertPulseEnd (p : Port) (s : State) : Host.Outcome State Fault Refusal :=
  if timerDue s.now (s.port p).pulseEnd = true then .next (s.modPort p (fun r => { r with pulseEnd := none }))
  else .next s

/-- LINK_UP (R164), behind the reports given before it (R123): FRESH from UNATTACHED; RESUMED from HOLDING, where every
subscription is derived again with a notice (R140). The front end recomputes its target (R35). -/
def execLinkUp (p : Port) (s : State) : Host.Outcome State Fault Refusal :=
  match (s.port p).link with
  | .attached => .next s
  | .unattached =>
    let s0 := takeReports s
    .next (settle (retarget s0.target (s0.modPort p (fun r => { r with link := .attached, attach := some .fresh }))))
  | .holding =>
    let s0 := takeReports s
    .next (settle (retarget s0.target (rederivePort true p
      (s0.modPort p (fun r => { r with link := .attached, attach := some .resumed, holdStart := none })))))

/-- The port record after a link-down (R165): HOLDING from now, its queues empty and its downlink idle. -/
def PortRec.down (r : PortRec) (now : Time) : PortRec :=
  { r with
    link := .holding, holdStart := some now, uplink := [], requests := [], responses := [], notices := [],
    downlink := .idle }

/-- The discard of a PLAN_WRITE whose port has lost its link goes on, but is not answered (R16, R165). -/
def forgetAsker (p : Port) (s : State) : State :=
  match s.plan.discard with
  | none => s
  | some d => if d.answerTo = some p then s.setPlan { s.plan with discard := some { d with answerTo := none } } else s

/-- LINK_DOWN (R140, R158, R165): from ATTACHED only, behind the reports given before it (R123). -/
def execLinkDown (p : Port) (s : State) : Host.Outcome State Fault Refusal :=
  if (s.port p).link = .attached then
    let s0 := takeReports s
    let s1 := forgetAsker p (s0.modPort p (fun r => r.down s0.now))
    .next (settle (retarget s0.target (reportPort .portDetached p (rederivePort false p (emptyQueue p s1)))))
  else .next s

/-- HOLD_EXPIRY (R166), behind the reports given before it (R123). -/
def execHoldExpiry (p : Port) (s : State) : Host.Outcome State Fault Refusal :=
  if s.holdDue p = true then
    let s0 := takeReports s
    .next (settle (retarget s0.target (expireHold p s0)))
  else .next s

end Sys2Proof.Machine
end

