-- ==== Sys2Proof/Machine/Reset.lean ====
section
/-! DEFINITION. COLD_RESET and WARM_RESET (R1, R3, R18, R59, R90, R114, R142, R162, R177, R180, R195, R196). -/

namespace Sys2Proof.Machine

/-- COLD_RESET: every block takes its cold reset values; what was on its way between blocks ends. -/
def execColdReset (s : State) : Host.Outcome State Fault Refusal :=
  .next { State.reset with slotPicks := s.slotPicks, pending := s.pending }

/-- The state at the end of a warm reset, before the log takes WARM_RESET: plan entries, settings, severity table and
log classes as they were, everything else at its reset value, the lock clear. -/
def warmBase (s : State) : State :=
  { State.reset with
    plan := { s.plan with lock := false, discard := none }
    log := s.log
    slotPicks := s.slotPicks
    pending := s.pending }

/-- WARM_RESET: when the reset is complete the log takes one occurrence of WARM_RESET (R196). -/
def execWarmReset (s : State) : Host.Outcome State Fault Refusal :=
  .next (takeOccurrence { kind := .warmReset, port := none, lane := none, plan := none } (warmBase s))

end Sys2Proof.Machine
end

