-- ==== Sys2Proof/Machine/Status.lean ====
section
/-! DEFINITION. STATUS in its four variants (R178), with the bodies of R201. The port serves it itself at the head of its
queue, and the reads change nothing. Each answer reads every block it draws on in one step, so that no event comes
between the reads (DESIGN CHOICE, log entry 38). -/

namespace Sys2Proof.Machine

/-- The body of a STATUS request of a variant at the head of a port's queue. -/
def State.statusBody (s : State) (p : Port) (v : StatusVariant) : Option (List Byte) :=
  match s.headBody p .status with
  | none => none
  | some body => if StatusVariant.ofCode (byteAt body 0) = some v then some body else none

/-- The subscription answer. -/
def encSub (q : Port) (i : SubId) (u : Sub) (s : State) : List Byte :=
  enc8 q.code ++ enc8 i.val ++ enc8 u.channel.val ++ enc8 u.lane.val ++ enc8 u.mode.code ++
    encOpt8 ((s.derivedState q u).map SubState.code) ++ encFlag u.overload ++ enc16 u.charge ++
    enc8 u.continuity.toNat ++ encFlags u.firstAfter u.liveMark ++ enc32 u.delivered ++ enc32 u.marked ++
    enc32 u.errorDropped ++ enc32 u.overflowDropped ++ encPids u.pids

/-- STATUS, subscription variant: RANGE for a port code or an id outside its set, NO_SUCH for an id not in use. -/
def statusSubscription (p : Port) (body : List Byte) (s : State) : State :=
  match Port.ofCode (byteAt body 1), finOf 6 (byteAt body 2) with
  | some q, some i =>
    match s.sub q i with
    | none => respond p .noSuch [] s
    | some u => respond p .ok (encSub q i u s) s
  | _, _ => respond p .range [] s

def execStatusSubscription (p : Port) (s : State) : Host.Outcome State Fault Refusal :=
  match s.statusBody p .subscription with
  | none => .next s
  | some body => .next (settle (statusSubscription p body s))

/-- A running timer as ms still to run. -/
def encTimer (now : Time) (t : Option Time) : List Byte := encOpt32 (t.map (msLeft now))

/-- What the admission controller holds for a lane of its assignment: a field of the answer that does not apply to a FREE
lane reads absent (R133, R141, R201). -/
def whileBusy {α : Type} (x : Lane) (field : Option α) : Option α := if x.state = .free then none else field

/-- The lane answer: the lane's own record, and channel, share count and charging rate as the admission controller holds
them (R178). -/
def encLane (l : LaneId) (s : State) : List Byte :=
  let x := s.lane l
  let a := s.admLane l
  enc8 l.val ++ enc8 x.state.kind.code ++ encOpt8 x.state.stageCode ++
    encOpt8 ((whileBusy x a.channel).map Fin.val) ++
    encOpt8 (x.memo.map Fin.val) ++ enc8 a.share ++ enc8 x.attempts ++ encOpt8 x.state.reasonCode ++
    encParams x.params ++ encFlags x.unsettled.isSome x.readPending ++ encTimer s.now x.unsettled ++
    encOpt32 (x.lingerStart.map (msRemaining s.now (s.plan.settings.linger * 1000))) ++
    encTimer s.now x.stageTimer ++ encTimer s.now x.recheckTimer ++ encTimer s.now x.coastTimer ++
    encTimer s.now x.retryTimer ++ enc32 x.packets ++ enc32 x.correctedPackets ++ enc32 x.correctedBytes ++
    enc32 x.uncorrectable ++ enc16 x.windowPackets ++ enc16 x.windowUncorrectable ++
    encOpt16 (whileBusy x a.rate)

/-- STATUS, lane variant: RANGE above 5. -/
def statusLane (p : Port) (body : List Byte) (s : State) : State :=
  match finOf 6 (byteAt body 1) with
  | none => respond p .range [] s
  | some l => respond p .ok (encLane l s) s

def execStatusLane (p : Port) (s : State) : Host.Outcome State Fault Refusal :=
  match s.statusBody p .lane with
  | none => .next s
  | some body => .next (settle (statusLane p body s))

/-- The front-end answer. -/
def encFrontEnd (s : State) : List Byte :=
  enc8 s.fe.state.code ++ enc8 s.target.code ++ enc32 s.fe.window ++ encOpt32 (s.fe.lastMove.map (elapsed s.now)) ++
    enc8 s.fe.attenuator ++ enc8 s.fe.feed.code ++ enc8 s.fe.retryCount

/-- STATUS, front-end variant. -/
def execStatusFrontEnd (p : Port) (s : State) : Host.Outcome State Fault Refusal :=
  match s.statusBody p .frontEnd with
  | none => .next s
  | some _ => .next (settle (respond p .ok (encFrontEnd s) s))

/-- The port answer. -/
def encPort (q : Port) (s : State) : List Byte :=
  let r := s.port q
  let a := s.admPort q
  enc8 r.link.code ++ encOpt32 (r.holdStart.map (msRemaining s.now (s.plan.settings.hold * 1000))) ++
    encOpt8 (r.attach.map AttachKind.code) ++ enc8 r.requests.length ++ enc8 r.responses.length ++
    enc8 r.notices.length ++ enc8 r.downlink.code ++ encTimer s.now r.pulseEnd ++ enc32 r.checkFailures ++
    enc32 r.busyAnswers ++ enc32 r.requestsLost ++ enc32 a.capacity ++ enc32 a.committed ++ enc8 a.standby.code ++
    enc8 (s.subCount q) ++ enc8 (s.quota q) ++ enc8 (s.queue q).length ++ encFlag (s.sendingPacket q) ++
    enc8 s.freeSlots.length

/-- STATUS, port variant: RANGE for a code other than A to D. -/
def statusPort (p : Port) (body : List Byte) (s : State) : State :=
  match Port.ofCode (byteAt body 1) with
  | none => respond p .range [] s
  | some q => respond p .ok (encPort q s) s

def execStatusPort (p : Port) (s : State) : Host.Outcome State Fault Refusal :=
  match s.statusBody p .port with
  | none => .next s
  | some body => .next (settle (statusPort p body s))

end Sys2Proof.Machine
end

