-- ==== Sys2Proof/Machine/Dispatch.lean ====
section
/-! DEFINITION. One arm per command: each calls its meaning. -/

namespace Sys2Proof.Machine

def exec (i : Instr) (s : State) : Host.Outcome State Fault Refusal :=
  match i with
  | .coldReset => Sys2Proof.Machine.execColdReset s
  | .warmReset => Sys2Proof.Machine.execWarmReset s
  | .planWrite p => Sys2Proof.Machine.execPlanWrite p s
  | .planDiscard => Sys2Proof.Machine.execPlanDiscard s
  | .planRead p => Sys2Proof.Machine.execPlanRead p s
  | .installSet p => Sys2Proof.Machine.execInstallSet p s
  | .planLock p => Sys2Proof.Machine.execPlanLock p s
  | .feedSet p => Sys2Proof.Machine.execFeedSet p s
  | .memoPin p => Sys2Proof.Machine.execMemoPin p s
  | .memoUnpin p => Sys2Proof.Machine.execMemoUnpin p s
  | .memoReleaseAll p => Sys2Proof.Machine.execMemoReleaseAll p s
  | .memoFlush p => Sys2Proof.Machine.execMemoFlush p s
  | .memoFlushUnpinned p => Sys2Proof.Machine.execMemoFlushUnpinned p s
  | .memoSeed p => Sys2Proof.Machine.execMemoSeed p s
  | .memoRead p => Sys2Proof.Machine.execMemoRead p s
  | .memoSnapshot p => Sys2Proof.Machine.execMemoSnapshot p s
  | .subscribe p => Sys2Proof.Machine.execSubscribe p s
  | .unsubscribe p => Sys2Proof.Machine.execUnsubscribe p s
  | .filterSet p => Sys2Proof.Machine.execFilterSet p s
  | .portSetup p => Sys2Proof.Machine.execPortSetup p s
  | .portReset p => Sys2Proof.Machine.execPortReset p s
  | .windowSet p => Sys2Proof.Machine.execWindowSet p s
  | .severitySet p => Sys2Proof.Machine.execSeveritySet p s
  | .logRead p => Sys2Proof.Machine.execLogRead p s
  | .logClear p => Sys2Proof.Machine.execLogClear p s
  | .statusSubscription p => Sys2Proof.Machine.execStatusSubscription p s
  | .statusLane p => Sys2Proof.Machine.execStatusLane p s
  | .statusFrontEnd p => Sys2Proof.Machine.execStatusFrontEnd p s
  | .statusPort p => Sys2Proof.Machine.execStatusPort p s
  | .uplinkFrame p b => Sys2Proof.Machine.execUplinkFrame p b s
  | .responseSendComplete p => Sys2Proof.Machine.execResponseSendComplete p s
  | .noticeSendComplete p => Sys2Proof.Machine.execNoticeSendComplete p s
  | .sendComplete p => Sys2Proof.Machine.execSendComplete p s
  | .alertPulseEnd p => Sys2Proof.Machine.execAlertPulseEnd p s
  | .linkUp p => Sys2Proof.Machine.execLinkUp p s
  | .linkDown p => Sys2Proof.Machine.execLinkDown p s
  | .holdExpiry p => Sys2Proof.Machine.execHoldExpiry p s
  | .wakeCompletion => Sys2Proof.Machine.execWakeCompletion s
  | .retuneCompletion => Sys2Proof.Machine.execRetuneCompletion s
  | .idleWindowSettled => Sys2Proof.Machine.execIdleWindowSettled s
  | .minimumResidencyEnd => Sys2Proof.Machine.execMinimumResidencyEnd s
  | .lastMoveStampDrop => Sys2Proof.Machine.execLastMoveStampDrop s
  | .clipEvent => Sys2Proof.Machine.execClipEvent s
  | .quietTimeExpiry => Sys2Proof.Machine.execQuietTimeExpiry s
  | .overcurrentEvent => Sys2Proof.Machine.execOvercurrentEvent s
  | .feedRestore => Sys2Proof.Machine.execFeedRestore s
  | .lastRestoreStampDrop => Sys2Proof.Machine.execLastRestoreStampDrop s
  | .lookup l => Sys2Proof.Machine.execLookup l s
  | .lookupAnswer l => Sys2Proof.Machine.execLookupAnswer l s
  | .lockNotice l => Sys2Proof.Machine.execLockNotice l s
  | .releaseNotice l => Sys2Proof.Machine.execReleaseNotice l s
  | .restartAllocation l => Sys2Proof.Machine.execRestartAllocation l s
  | .restartAllocationAnswer l => Sys2Proof.Machine.execRestartAllocationAnswer l s
  | .signalPresent l => Sys2Proof.Machine.execSignalPresent l s
  | .senseTimeout l => Sys2Proof.Machine.execSenseTimeout l s
  | .carrierFound l f md g => Sys2Proof.Machine.execCarrierFound l f md g s
  | .carrierTimeout l => Sys2Proof.Machine.execCarrierTimeout l s
  | .frameDecoded l c r k => Sys2Proof.Machine.execFrameDecoded l c r k s
  | .frameTimeout l => Sys2Proof.Machine.execFrameTimeout l s
  | .signallingMatch l k => Sys2Proof.Machine.execSignallingMatch l k s
  | .signallingMismatch l => Sys2Proof.Machine.execSignallingMismatch l s
  | .verifyTimeout l => Sys2Proof.Machine.execVerifyTimeout l s
  | .streamSync l => Sys2Proof.Machine.execStreamSync l s
  | .streamTimeout l => Sys2Proof.Machine.execStreamTimeout l s
  | .syncLost l => Sys2Proof.Machine.execSyncLost l s
  | .syncRegained l => Sys2Proof.Machine.execSyncRegained l s
  | .coastExpiry l => Sys2Proof.Machine.execCoastExpiry l s
  | .recheckTimerExpiry l => Sys2Proof.Machine.execRecheckTimerExpiry l s
  | .recheck l md g c r k => Sys2Proof.Machine.execRecheck l md g c r k s
  | .lanePacket l o b => Sys2Proof.Machine.execLanePacket l o b s
  | .errorRateWindowComplete l => Sys2Proof.Machine.execErrorRateWindowComplete l s
  | .unsettledExpiry l => Sys2Proof.Machine.execUnsettledExpiry l s
  | .retryExpiry l => Sys2Proof.Machine.execRetryExpiry l s
  | .lingerExpiry l => Sys2Proof.Machine.execLingerExpiry l s
  | .rateReport l => Sys2Proof.Machine.execRateReport l s
  | .laneStateChange l => Sys2Proof.Machine.execLaneStateChange l s
  | .changeToFree l => Sys2Proof.Machine.execChangeToFree l s
  | .packetEvent l => Sys2Proof.Machine.execPacketEvent l s
  | .logOccurrence n => Sys2Proof.Machine.execLogOccurrence n s

end Sys2Proof.Machine
end

