-- ==== Sys2Proof/Safety.lean ====
section
/-! DEFINITION. What a safe run keeps, in the terms the statements use: the laws of the part (Laws 1 to 7 of spec
chapters 2, 3, 6, 7 and 9, and the presence rules of the lane, front-end and port records), and the forms in which a
statement says what a command leaves on the ports. -/

namespace Sys2Proof.Machine

/-! ## Laws 1 and 2: lanes, channels and subscriptions (R117) -/

/-- How many subscriptions name a lane. -/
def State.subsOnLane (s : State) (l : LaneId) : Nat :=
  (allKeys.filter (fun k => decide ((s.sub k.1 k.2).map Sub.lane = some l))).length

/-- Laws 1 and 2 (R117), with the bookkeeping they rest on: a lane's channel is the channel of its subscriptions, and
only an unshared lane lingers (R60, R84). -/
structure SharingLaw (s : State) : Prop where
  /-- Law 1: the share count is the number of subscriptions that name the lane. -/
  shares : ∀ l, (s.admLane l).share = s.subsOnLane l
  /-- Law 1: a lane with share count above 0 is not FREE. -/
  sharedBusy : ∀ l, 0 < (s.admLane l).share → (s.lane l).state ≠ .free
  /-- A lane carries a channel exactly when it is not FREE (R60). -/
  channelWhenBusy : ∀ l, (s.lane l).channel.isSome ↔ (s.lane l).state ≠ .free
  /-- A subscription's lane carries the subscription's channel. -/
  laneOfSub : ∀ p i u, s.sub p i = some u → (s.lane u.lane).channel = some u.channel
  /-- Law 2: no two lanes that are not FREE hold the same plan index. -/
  oneLane : ∀ l k x, (s.lane l).channel = some x → (s.lane k).channel = some x → l = k
  /-- Law 2: no port holds two subscriptions on the same plan index. -/
  onePerPort : ∀ p i j u v, s.sub p i = some u → s.sub p j = some v → u.channel = v.channel → i = j
  /-- A lane with a linger start has share count 0 (R84). -/
  lingerUnshared : ∀ l, (s.lane l).lingerStart.isSome → (s.admLane l).share = 0

/-! ## Law 3: committed loads (R28, R136) -/

/-- What a subscription adds to its port's committed load. -/
def countedCharge : Option Sub → Nat
  | none => 0
  | some u => if u.overload then 0 else u.charge

/-- The sum of the charges of a port's subscriptions that are not OVERLOAD. -/
def State.chargedSum (s : State) (p : Port) : Nat := (allIds.map (fun i => countedCharge (s.sub p i))).sum

/-- Law 3 (R136) and the range of a capacity (R27). -/
structure CommittedLaw (s : State) : Prop where
  sum : ∀ p, (s.admPort p).committed = s.chargedSum p
  within : ∀ p, (s.admPort p).committed ≤ (s.admPort p).capacity
  range : ∀ p, 10000 ≤ (s.admPort p).capacity ∧ (s.admPort p).capacity ≤ 200000 ∧ (s.admPort p).capacity % 1000 = 0

/-! ## Laws 4 and 5: slots and queues (R144, R145) -/

/-- How many output-queue entries name a slot. -/
def State.namings (s : State) (i : SlotId) : Nat :=
  (Port.all.map (fun p => ((s.queue p).filter (fun e => decide (e.slot = i))).length)).sum

/-- Law 4 (R144): a used slot's reference count is the number of entries that name it and at least 1; no entry names a
free slot. -/
structure SlotLaw (s : State) : Prop where
  free : ∀ i, s.slot i = none → s.namings i = 0
  used : ∀ i x, s.slot i = some x → x.refs = s.namings i ∧ 1 ≤ x.refs

/-- The sum of the four quotas. -/
def State.quotaSum (s : State) : Nat := (Port.all.map s.quota).sum

/-- Law 5 (R145), on which the room test rests with Laws 1, 2 and 4: a queue holds no more entries than its quota and
names no slot twice, a quota is 8 to 64, and the four sum to at most 128. -/
structure QueueLaw (s : State) : Prop where
  sharing : SharingLaw s
  slots : SlotLaw s
  within : ∀ p, (s.queue p).length ≤ s.quota p
  once : ∀ p, ((s.queue p).map Entry.slot).Nodup
  range : ∀ p, 8 ≤ s.quota p ∧ s.quota p ≤ 64
  total : s.quotaSum ≤ 128

/-! ## Law 6 and the fit of the lanes (R40, R41) -/

/-- A window position (R29). -/
def isPosition (w : Nat) : Prop := w % 1000 = 0 ∧ 160000 ≤ w ∧ w ≤ 624000

/-- Law 6 (R40), and R41: the channel of every lane that is not FREE is a present entry that fits the window. -/
structure WindowLaw (s : State) : Prop where
  position : isPosition s.fe.window
  fitted : ∀ l, (s.lane l).state ≠ .free → ∃ e, s.laneEntry l = some e ∧ fits s.fe.window e = true

/-! ## Law 7: log classes (R185) -/

/-- Law 7 of one class: the count is 0 exactly when the first record is absent, and the next set is then empty; the
count stays within 65,535 and the next set holds no kind twice. -/
structure ClassLaw (c : LogClass) : Prop where
  empty : c.count = 0 ↔ c.first = none
  nextEmpty : c.first = none → c.nextSet = []
  bound : c.count ≤ 65535
  once : c.nextSet.Nodup

/-- Law 7 (R185). -/
def LogLaw (s : State) : Prop := ClassLaw s.log.minor ∧ ClassLaw s.log.major

/-! ## The memo store (R93, R94) -/

/-- The laws of R93 and R94. The rate law passes over the memo whose discard an accepted PLAN_WRITE has asked for and
the store has not yet made (R6, R7): its entry is already the new one. -/
structure MemoLaw (s : State) : Prop where
  /-- Each of the sixteen memo numbers stands in the recency order exactly once. -/
  order : s.store.order.Perm defaultOrder
  /-- No two memos carry the same plan index. -/
  tags : ∀ m k x, (s.memo m).tag = some x → (s.memo k).tag = some x → m = k
  /-- A pinned memo carries a plan index. -/
  pinned : ∀ m, (s.memo m).pinned = true → (s.memo m).tag.isSome
  /-- The rate is the one the capacity arithmetic gives, or absent where a parameter is. -/
  rate : ∀ m x, (s.memo m).tag = some x → s.plan.discard.map DiscardAsk.index ≠ some x →
    (s.memo m).fields.streamRate = rateFrom (s.bandwidth x) (s.memo m).fields

/-! ## Memos and the plan (R9, R113) -/

/-- A memo carries the index of a present entry only, and a discard meets no lookup, restart or release for its index:
what a lane that is not FREE carries, and what the store has still to take, is present and not under a discard. -/
structure PlanLaw (s : State) : Prop where
  busy : ∀ l x, (s.lane l).state ≠ .free → (s.lane l).channel = some x → s.plan.discard.map DiscardAsk.index ≠ some x
  asked : ∀ l, ∀ m ∈ s.mail.toStore.get l, ∀ x, m.names x = true →
    (s.entry x).isSome ∧ s.plan.discard.map DiscardAsk.index ≠ some x
  tagged : ∀ m x, (s.memo m).tag = some x → (s.entry x).isSome ∨ s.plan.discard.map DiscardAsk.index = some x

/-! ## Parameter sets and memos (R62, R93, R98) -/

/-- The messages to the store that it answers (R97, R101). -/
def StoreMsg.asks : StoreMsg → Bool
  | .lookup _ => true
  | .restart _ _ => true
  | .lock _ => false
  | .release _ => false

def StoreMsg.releases : StoreMsg → Bool
  | .release _ => true
  | .lookup _ => false
  | .lock _ => false
  | .restart _ _ => false

/-- What of a lane's waiting messages to the store it has sent since it was last released. -/
def sinceRelease : List StoreMsg → List StoreMsg
  | [] => []
  | m :: rest => if (m :: rest).any StoreMsg.releases = true then sinceRelease rest else m :: rest

/-- A memo carries a channel and holds exactly these fields. -/
def State.memoHolds (s : State) (m : MemoId) (x : PlanIndex) (f : Params) : Prop :=
  (s.memo m).tag = some x ∧ (s.memo m).fields = f

/-- R62: the stream rate of a parameter set is the one that the capacity arithmetic gives, and a lane's memo carries the
lane's channel and holds the fields of its parameter set. With it what it rests on: the questions and answers under way
between a lane and the store, and that the store counts a lane in use from its lookup on (R63, R64, R83, R92, R97 to
R101). -/
structure ParameterLaw (s : State) : Prop where
  rate : ∀ l x, (s.lane l).channel = some x → (s.lane l).params.streamRate = rateFrom (s.bandwidth x) (s.lane l).params
  inStep : ∀ l x m, (s.lane l).channel = some x → (s.lane l).memo = some m → s.memoHolds m x (s.lane l).params
  /-- Every question is under way once, as the question or as its answer. -/
  counted : ∀ l, (s.mail.toLane.get l).length + ((s.mail.toStore.get l).filter StoreMsg.asks).length =
    (s.lane l).staleAnswers + (s.lane l).lookupPending.toNat + (s.lane l).restartsPending
  whenFree : ∀ l, (s.lane l).state = .free →
    sinceRelease (s.mail.toStore.get l) = [] ∧ (s.lane l).lookupPending = false ∧ (s.lane l).restartsPending = 0
  /-- A lane with an unanswered question waits in WAIT, or in HOLDOFF(FEED) (R63, R83, R88). -/
  waits : ∀ l, (s.lane l).lookupPending = true ∨ 0 < (s.lane l).restartsPending →
    (s.lane l).state = .acquire .wait ∨ (s.lane l).state = .holdoff .feed
  /-- An unanswered lookup stands in the lane's messages behind everything the lane sent before, or in its answer. -/
  lookup : ∀ l x, (s.lane l).channel = some x → (s.lane l).lookupPending = true →
    (s.lane l).restartsPending = 0 ∧ (s.lane l).memo = none ∧ (s.lane l).params = Params.absent ∧
      ((sinceRelease (s.mail.toStore.get l) = [.lookup x] ∧ (s.mail.toLane.get l).length ≤ (s.lane l).staleAnswers) ∨
        (s.mail.toStore.get l = [] ∧ s.store.inUse.get l = some x ∧
          ∃ answer, (s.mail.toLane.get l).drop (s.lane l).staleAnswers = [.lookup x answer] ∧
            ∀ a, answer = some a → s.memoHolds a.1 x a.2))
  /-- A lane whose lookup is answered is counted in use; what it has under way are lock notices and restart allocations
  of its own fields. -/
  restarts : ∀ l x, (s.lane l).channel = some x → (s.lane l).lookupPending = false →
    s.store.inUse.get l = some x ∧ (s.lane l).staleAnswers ≤ (s.mail.toLane.get l).length ∧
      (∀ m ∈ s.mail.toStore.get l, m = .restart x (s.lane l).params ∨ ∃ k, m = .lock k) ∧
      ∀ a ∈ (s.mail.toLane.get l).drop (s.lane l).staleAnswers,
        a = .restart x none ∨ ∃ m, a = .restart x (some m) ∧ s.memoHolds m x (s.lane l).params

/-! ## The lane record (R60) -/

/-- The stages that run a stage timer (R60). -/
def Stage.timed : Stage → Bool
  | .wait => false
  | .sense => true
  | .carrier => true
  | .frame => true
  | .verify => true
  | .stream => true

/-- The states in which the stage timer, the recheck timer, the coast timer and the retry timer run (R60). -/
def LaneState.runsStage : LaneState → Bool
  | .acquire st => st.timed
  | .free => false
  | .locked => false
  | .coast => false
  | .holdoff _ => false

def LaneState.runsRetry : LaneState → Bool
  | .holdoff .noSignal => true
  | .holdoff .failed => true
  | .holdoff .feed => false
  | .free => false
  | .acquire _ => false
  | .locked => false
  | .coast => false

/-- The presence and range rules of R60 for one lane. -/
structure LaneLaw (x : Lane) : Prop where
  stageTimer : x.stageTimer.isSome ↔ x.state.runsStage = true
  recheckTimer : x.recheckTimer.isSome ↔ x.state = .locked
  readPending : x.readPending = true → x.state = .locked
  coastTimer : x.coastTimer.isSome ↔ x.state = .coast
  retryTimer : x.retryTimer.isSome ↔ x.state.runsRetry = true
  channel : x.channel.isSome ↔ x.state ≠ .free
  whenFree : x.state = .free →
    x.memo = none ∧ x.params = Params.absent ∧ x.attempts = 0 ∧ x.unsettled = none ∧ x.lingerStart = none ∧
      x.lookupPending = false ∧ x.restartsPending = 0 ∧ x.tuned = none ∧ x.windowsDone = []
  attempts : x.attempts ≤ 3
  acquiring : x.state.kind = .acquire → x.attempts ≤ 2
  window : x.windowPackets ≤ 999 ∧ x.windowUncorrectable ≤ x.windowPackets
  counters : x.packets ≤ 4294967295 ∧ x.correctedPackets ≤ 4294967295 ∧ x.correctedBytes ≤ 4294967295 ∧
    x.uncorrectable ≤ 4294967295

/-! ## Lanes and their input (R66, R82, R89) -/

/-- A lane past WAIT, LOCKED or COAST demodulates (R89). -/
def LaneState.demodulates : LaneState → Bool
  | .acquire st => st.timed
  | .locked => true
  | .coast => true
  | .free => false
  | .holdoff _ => false

/-- What ties the lanes to the front end: while some lane is not FREE the front end is powered (R34 to R38); a lane that
demodulates has a usable input (R89); a lane in HOLDOFF(FEED) waits for the feed (R56); and a lane whose questions are
answered does not wait in WAIT with a usable input (R66). -/
structure InputLaw (s : State) : Prop where
  powered : ∀ l, (s.lane l).state ≠ .free → s.fe.state ≠ .off ∧ s.fe.state ≠ .idle
  usable : ∀ l, (s.lane l).state.demodulates = true → s.fe.usable = true
  feedFault : ∀ l, (s.lane l).state = .holdoff .feed → s.fe.feed = .faultWait ∨ s.fe.feed = .latched
  noIdleWait : ∀ l, (s.lane l).state = .acquire .wait → (s.lane l).lookupPending = false →
    (s.lane l).restartsPending = 0 → s.fe.usable = false

/-! ## The front end's record (R33, R50, R51) -/

/-- The presence and range rules of R33, R50 and R51. -/
structure FrontEndLaw (f : FrontEnd) : Prop where
  wakeEnd : f.wakeEnd.isSome ↔ f.state = .waking
  activeSince : f.activeSince.isSome → f.state = .active ∨ f.state = .retuning
  idleSince : f.idleSince.isSome → f.state = .idle
  retuneEnd : f.retuneEnd.isSome ↔ f.state = .retuning
  attenuator : f.attenuator % 2 = 0 ∧ f.attenuator ≤ 30
  quiet : f.quiet ≤ 60000
  feedWait : f.feedWaitEnd.isSome ↔ f.feed = .faultWait
  retries : f.retryCount ≤ 3
  retriesWaiting : f.feed = .faultWait → f.retryCount ≤ 2

/-! ## The port record (R163, R165, R169, R173, R175) -/

/-- No ATTACHED port stands with an idle downlink while something waits to be sent (R175). -/
def State.Settled (s : State) : Prop :=
  ∀ p, (s.port p).link = .attached → (s.port p).downlink = .idle →
    (s.port p).responses = [] ∧ (s.port p).notices = [] ∧ s.queue p = []

/-- The rules of R163 for every port, with the output arbiter's (R175) and the output queue's (R157). -/
structure PortLaw (s : State) : Prop where
  settled : s.Settled
  detached : ∀ p, (s.port p).link ≠ .attached →
    (s.port p).uplink = [] ∧ (s.port p).requests = [] ∧ (s.port p).responses = [] ∧ (s.port p).notices = [] ∧
      (s.port p).downlink = .idle ∧ s.queue p = []
  hold : ∀ p, (s.port p).holdStart.isSome ↔ (s.port p).link = .holding
  requests : ∀ p, (s.port p).requests.length ≤ 4
  busyAnswers : ∀ p, ((s.port p).responses.filter (fun x => x.busy)).length ≤ 4
  headAnswers : ∀ p, ((s.port p).responses.filter (fun x => !x.busy)).length ≤ 1
  answered : ∀ p, (s.port p).requests = [] → (s.port p).responses.all (fun x => x.busy) = true
  notices : ∀ p, ((s.port p).notices.map Notice.key).Nodup
  sendsResponse : ∀ p, (s.port p).downlink = .response → (s.port p).responses ≠ []
  sendsPacket : ∀ p, (s.port p).downlink = .packet → s.queue p ≠ []
  /-- A PLAN_WRITE whose discard is asked for stands at the head of its port's queue, unanswered (R6, R16). -/
  asker : ∀ d p, s.plan.discard = some d → d.answerTo = some p →
    ∃ r, s.headRequest p = some r ∧ r.kind = ReqKind.planWrite.code

/-! ## What a command leaves on the ports -/

/-- A request of a kind waits for its block: its port is ATTACHED, it stands at the head, passed and unanswered, with
this body; and the downlinks are settled (R170, R175). -/
def State.Asks (s : State) (p : Port) (k : ReqKind) (body : List Byte) : Prop :=
  s.Settled ∧ (s.port p).link = .attached ∧ s.headBody p k = some body

/-- An admission request of a kind waits, and the arbiter grants its port (R122). -/
def State.AsksAdmission (s : State) (p : Port) (k : ReqKind) (body : List Byte) : Prop :=
  s.Settled ∧ (s.port p).link = .attached ∧ s.granted p k = some body

/-- A port record that is given one more response: an idle downlink starts to send it (R170, R175). -/
def PortRec.answered (r : PortRec) (status : Status) (fields : List Byte) : PortRec :=
  match r.requests with
  | [] => r
  | q :: _ =>
    { r with
      responses := r.responses ++ [{ busy := false, kind := responseKind q.kind, tag := q.tag, body := status.code :: fields }]
      downlink := if r.downlink = .idle then .response else r.downlink }

/-- The four ports after the head request of one of them is answered and nothing else happens to them. -/
def State.answered (s : State) (p : Port) (status : Status) (fields : List Byte) : PerPort PortRec :=
  s.ports.put p ((s.port p).answered status fields)

/-- A settled port's record after a notice is raised for it: discarded unless ATTACHED, sent at once by an idle
downlink, otherwise queued in its key's place (R173, R175). -/
def PortRec.noticed (r : PortRec) (n : Notice) : PortRec :=
  if r.link ≠ .attached then r
  else if r.downlink = .idle then { r with downlink := .notice n }
  else { r with notices := enqueueNotice n r.notices }

/-- A settled port's record after a response and then a notice: the response is sent first (R175). -/
def PortRec.answeredNoticed (r : PortRec) (status : Status) (fields : List Byte) (n : Notice) : PortRec :=
  { r.answered status fields with notices := enqueueNotice n r.notices }

/-! ## After a reset -/

/-- What either reset leaves in every block, but for what a warm reset keeps and for the fault log's classes: the
tables of R59, R90, R114, R142, R162 and R180, the time base of R181 and the lock of R18. -/
structure AfterEitherReset (t : State) : Prop where
  timeBase : t.now = 0
  lock : t.plan.lock = false ∧ t.plan.discard = none
  frontEnd : t.fe.state = .off ∧ t.fe.wakeEnd = none ∧ t.fe.activeSince = none ∧ t.fe.idleSince = none ∧
    t.fe.retuneEnd = none ∧ t.fe.window = 470000 ∧ t.fe.lastMove = none
  attenuatorAndFeed : t.fe.attenuator = 0 ∧ t.fe.quiet = 0 ∧ t.fe.clipMute = 0 ∧ t.fe.feed = .off ∧
    t.fe.retryCount = 0 ∧ t.fe.lastRestore = none ∧ t.fe.feedWaitEnd = none
  lanes : ∀ l, t.lane l =
    { state := .free, channel := none, memo := none, lookupPending := false, restartsPending := 0,
      staleAnswers := 0, attempts := 0,
      params := { offset := none, mode := none, guard := none, constellation := none, codeRate := none, cell := none,
                  streamRate := none },
      tuned := none, unsettled := none, lingerStart := none, stageTimer := none, recheckTimer := none, readPending := false,
      coastTimer := none, retryTimer := none, packets := 0, correctedPackets := 0, correctedBytes := 0,
      uncorrectable := 0, windowPackets := 0, windowUncorrectable := 0, windowsDone := [] }
  memos : ∀ m, (t.memo m).tag = none ∧ (t.memo m).pinned = false ∧ (t.memo m).fields = Params.absent
  order : t.store.order = [15, 14, 13, 12, 11, 10, 9, 8, 7, 6, 5, 4, 3, 2, 1, 0]
  inUse : ∀ l, t.store.inUse.get l = none
  subscriptions : ∀ p i, t.sub p i = none
  admissionLanes : ∀ l, t.admLane l = { channel := none, share := 0, rate := none, seen := .free }
  portSettings : ∀ p, (t.admPort p).capacity = 100000 ∧ (t.admPort p).committed = 0 ∧ (t.admPort p).standby = .idle ∧
    t.quota p = 32
  servedLast : t.adm.lastServed = .d
  pool : (∀ i, t.slot i = none) ∧ ∀ p, t.queue p = []
  ports : ∀ p, t.port p =
    { link := .unattached, holdStart := none, attach := none, uplink := [], requests := [], responses := [],
      notices := [], downlink := .idle, pulseEnd := none, checkFailures := 0, busyAnswers := 0, requestsLost := 0 }
  mail : (∀ l, t.mail.toStore.get l = [] ∧ t.mail.toLane.get l = [] ∧ t.mail.toPool.get l = []) ∧ t.mail.toAdm = [] ∧
    t.mail.toLog = []

/-- An operation on every port's record. -/
def PerPort.each {α : Type} (t : PerPort α) (f : α → α) : PerPort α := { a := f t.a, b := f t.b, c := f t.c, d := f t.d }

end Sys2Proof.Machine
end

