-- ==== Sys2Proof/Certificates/Slice0/Obligations.lean ====
section
/-! DEFINITION. The statements for the provers. Each docstring names the rules of spec/ that the statement formalises or
rests on. A statement about a command says where it completes: its hypotheses are on the state and the operands alone,
and its conclusion is the next state, or what the next state holds together with what it leaves as it was. -/

open Sys2Proof Sys2Proof.Machine

/-! ## Forms the statements share -/

/-- The bytes of an unsigned field of some bytes, most significant first (R197). -/
def bytesOf : Nat → Nat → List Byte
  | 0, _ => []
  | n + 1, v => BitVec.ofNat 8 (v / 256 ^ n) :: bytesOf n v

/-- A field of some bytes that may be absent: it then reads all-ones (R197). -/
def field (n : Nat) : Option Nat → List Byte
  | none => List.replicate n 0xFF
  | some v => bytesOf n v

/-- The number that some bytes spell, most significant first (R197). -/
def numberOf (bytes : List Byte) : Nat := bytes.foldl (fun v b => v * 256 + b.toNat) 0

/-- The value of a field of a request that may be not given: it is not given where every byte is FFh (R197). -/
def givenIn (bytes : List Byte) : Option Nat :=
  if bytes.all (fun b => b = 0xFF) = true then none else some (numberOf bytes)

/-- A flag as 0 or 1, and a set of two flags (R197). -/
def flag (x : Bool) : Nat := if x = true then 1 else 0
def flagSet (first second : Bool) : Nat := flag first + 2 * flag second

/-- The ms a running timer has still to run (R60, R201): 0 once its end has been reached (log entry 3). -/
def stillToRun (now t : Time) : Nat := if (now - t).toNat < 2147483648 then 0 else (t - now).toNat

/-- A lane that enters SENSE (R67): for 50 ms, tuned to its channel's plan centre, moved by the offset when its parameter
set holds one. -/
def sensed (s : State) (x : Lane) : Lane :=
  { x with
    state := .acquire .sense, stageTimer := some (s.now + 50#32)
    tuned := match x.channel with
      | none => none
      | some c =>
        match s.entry c, x.params.offset with
        | none, _ => none
        | some e, none => some e.centre
        | some e, some kHz => some (e.centre + kHz) }

/-- A lane that waits in WAIT with its questions answered goes on to SENSE where the input is usable: the front end ACTIVE
and the feed ON or OFF (R39, R66, R67). -/
def sensing (s : State) (x : Lane) : Lane :=
  if x.state = .acquire .wait ∧ x.lookupPending = false ∧ x.restartsPending = 0 ∧ s.fe.state = .active ∧
      (s.fe.feed = .on ∨ s.fe.feed = .off) then sensed s x
  else x

/-- What a memo-less lane whose lookup is answered asks the store when it restarts: an allocation with its parameter set
(R83, R101). -/
def restartAsked (x : Lane) : List StoreMsg :=
  match x.memo, x.channel with
  | none, some c => if x.lookupPending = false then [.restart c x.params] else []
  | _, _ => []

/-- A lane that restarts its acquisition in WAIT (R83, R87): timers stopped, attempts 0, the rest kept; a memo-less lane
asks for an allocation at each restart. -/
def restarted (x : Lane) : Lane :=
  { x with
    state := .acquire .wait, attempts := 0, stageTimer := none, recheckTimer := none, readPending := false,
    coastTimer := none, retryTimer := none, restartsPending := x.restartsPending + (restartAsked x).length }

/-- How many answers of the store are still to come to what a lane has asked (R63, R83; log entry 21). -/
def unansweredBy (x : Lane) : Nat := x.staleAnswers + flag x.lookupPending + x.restartsPending

/-- A lane after a release to FREE (R85): counters and error-rate window kept, everything else dropped; the answers still
to come concern it no more (R64, log entry 21). -/
def freed (x : Lane) : Lane :=
  { state := .free, channel := none, memo := none, lookupPending := false, restartsPending := 0,
    staleAnswers := unansweredBy x, attempts := 0, params := Params.absent, tuned := none, unsettled := none,
    lingerStart := none, stageTimer := none, recheckTimer := none, readPending := false, coastTimer := none,
    retryTimer := none, packets := x.packets, correctedPackets := x.correctedPackets,
    correctedBytes := x.correctedBytes, uncorrectable := x.uncorrectable, windowPackets := x.windowPackets,
    windowUncorrectable := x.windowUncorrectable, windowsDone := [] }

/-- The notice by which a released lane tells the store of its channel (R85, R100). -/
def releaseNotice (x : Lane) : List StoreMsg :=
  match x.channel with
  | none => []
  | some c => [.release c]

/-- An ACTIVE front end's step down to a level below ACTIVE, once the minimum residency is over (R38): the active-since
stamp is dropped or at least 2,000 ms old (log entry 28). -/
def steppedDown (f : FrontEnd) (now : Time) (level : Target) : FrontEnd :=
  let ended := match f.activeSince with
    | none => true
    | some t0 => decide (2000 ≤ (now - t0).toNat)
  match level with
  | .active => f
  | .idle => if ended = true then { f with state := .idle, activeSince := none } else f
  | .off => if ended = true then { f with state := .off, activeSince := none } else f

/-- The front end after an event that leaves it a target (R35): an unchanged one has no effect; from OFF and IDLE it moves
at once toward a changed one (R36), waking from OFF in 120 ms and from IDLE in 10 ms or, while the window settles, in
120 ms less the time spent in IDLE; from ACTIVE it steps down (R38); WAKING and RETUNING wait. -/
def steered (s : State) (after : Target) : FrontEnd :=
  if after = s.target then s.fe
  else
    match s.fe.state, after with
    | .off, .idle => { s.fe with state := .idle, idleSince := some s.now }
    | .off, .active => { s.fe with state := .waking, wakeEnd := some (s.now + 120#32) }
    | .idle, .off => { s.fe with state := .off, idleSince := none }
    | .idle, .active =>
      let wait := match s.fe.idleSince with
        | none => 10
        | some t0 => if 110 ≤ (s.now - t0).toNat then 10 else 120 - (s.now - t0).toNat
      { s.fe with state := .waking, wakeEnd := some (s.now + BitVec.ofNat 32 wait), idleSince := none }
    | .active, level => steppedDown s.fe s.now level
    | _, _ => s.fe

/-! ## The step -/

/-- A step takes the command at the front of the queue and runs it on the state with the queue's rest. -/
def Obligations.StepTakesTheFrontCommand : Prop :=
  ∀ (c : Instr) (rest : List Instr) (s : State), step { s with pending := c :: rest } = exec c { s with pending := rest }

/-- With no command waiting a step is one millisecond (the model's choice, log entry 2): the time base rises by 1 and
wraps (R181), the quiet time advances in ACTIVE up to 60,000 (R50), the ADC's 50 ms run down (R50), and nothing else
changes. -/
def Obligations.IdleStepIsOneMillisecond : Prop :=
  ∀ s : State, s.pending = [] →
    step s = .next { s with
      now := BitVec.ofNat 32 (s.now.toNat + 1)
      fe := { s.fe with
        quiet := if s.fe.state = .active ∧ s.fe.quiet < 60000 then s.fe.quiet + 1
          else if s.fe.state = .active then 60000 else s.fe.quiet
        clipMute := s.fe.clipMute - 1 } }

/-- Every command answers a next state, one whose event cannot happen among them (log entry 4); it leaves the commands that
wait as they were (log entry 1); and no command but a reset moves the time base, since a command takes no time (log entry
2). All three are the model's choice. -/
def Obligations.EveryCommandCompletes : Prop :=
  ∀ (c : Instr) (s : State), ∃ t, exec c s = .next t ∧ t.pending = s.pending ∧
    (c ≠ .coldReset → c ≠ .warmReset → t.now = s.now)

/-- What only some commands may change (R2, R3, R9, R17, R48, R183): the plan entries change only at PLAN_WRITE and a
cold reset; no command but a reset clears the plan lock; the window moves only at SUBSCRIBE, WINDOW_SET and a reset; the
severity table changes only at SEVERITY_SET and a cold reset. -/
def Obligations.SharedSettingsChangeOnlyAtTheirCommands : Prop :=
  ∀ (c : Instr) (s t : State), exec c s = .next t →
    (t.plan.entries ≠ s.plan.entries → c = .coldReset ∨ ∃ p, c = .planWrite p) ∧
    (s.plan.lock = true → t.plan.lock = false → c = .coldReset ∨ c = .warmReset) ∧
    (t.fe.window ≠ s.fe.window → c = .coldReset ∨ c = .warmReset ∨ (∃ p, c = .subscribe p) ∨ ∃ p, c = .windowSet p) ∧
    (t.log.severities ≠ s.log.severities → c = .coldReset ∨ ∃ p, c = .severitySet p)

/-! ## Resets -/

/-- COLD_RESET (R1, R18, R59, R90, R114, R142, R162, R180, R195): RESET held low for 10 ms or more gives it, and every
block is then at its cold reset values. The command queue and the model's count of slots taken are no state of the part
and stay: the model's choice (log entries 7 and 23). -/
def Obligations.ColdResetGivesTheResetValues : Prop :=
  (∀ micros, resetPulse micros = some .coldReset ↔ 10000 ≤ micros) ∧
  ∀ s : State, ∃ t, exec .coldReset s = .next t ∧ AfterEitherReset t ∧ (∀ x, t.entry x = none) ∧
    t.plan.settings = { moveInterval := 10000, linger := 30, unsettle := 10, hold := 8, policy := .shallow } ∧
    (∀ k, t.log.severity k =
      match k with
      | .reqCheck => .advisory
      | .reqMalformed => .degraded
      | .acqFail => .degraded
      | .lockLost => .degraded
      | .memoMismatch => .advisory
      | .memoUnavailable => .advisory
      | .cellChanged => .advisory
      | .signallingChange => .degraded
      | .laneUnsettled => .degraded
      | .rateOverload => .degraded
      | .queueOverflow => .degraded
      | .poolExhausted => .serious
      | .feClip => .advisory
      | .feedFault => .serious
      | .feedLatched => .critical
      | .portDetached => .degraded
      | .portExpired => .serious
      | .warmReset => .serious) ∧
    t.log.minor = { first := none, nextSet := [], count := 0 } ∧
    t.log.major = { first := none, nextSet := [], count := 0 } ∧
    (∀ p, t.alertAsserted p = false) ∧ t.slotPicks = s.slotPicks ∧ t.pending = s.pending

/-- WARM_RESET (R1, R18, R59, R90, R114, R142, R162, R177, R180, R196): RESET held low for 100 µs or more and less than
10 ms gives it, and for less than 100 µs gives no reset; plan entries, settings, severity table and classes kept, one
occurrence of WARM_RESET taken at time 0 with the severity the table holds, everything else at its reset value; and every
alert line is held exactly when the major class then holds a first record. That the command queue and the model's count
of slots taken stay is the model's choice (log entries 7 and 23). -/
def Obligations.WarmResetKeepsPlanAndLog : Prop :=
  (∀ micros, (resetPulse micros = some .warmReset ↔ 100 ≤ micros ∧ micros < 10000) ∧
    (resetPulse micros = none ↔ micros < 100)) ∧
  ∀ s : State, ∃ t, exec .warmReset s = .next t ∧ AfterEitherReset t ∧ t.plan.entries = s.plan.entries ∧
    t.plan.settings = s.plan.settings ∧ t.log.severities = s.log.severities ∧
    (∀ n, (s.log.severity .warmReset).cls ≠ some n → t.log.cls n = s.log.cls n) ∧
    (∀ n, (s.log.severity .warmReset).cls = some n →
      ((s.log.cls n).first = none →
        (t.log.cls n).first = some { kind := .warmReset, severity := s.log.severity .warmReset, stamp := 0, port := none,
                                     lane := none, plan := none } ∧
          (t.log.cls n).nextSet = [] ∧ (t.log.cls n).count = 1) ∧
      ((s.log.cls n).first ≠ none →
        (t.log.cls n).first = (s.log.cls n).first ∧
          (∀ k, k ∈ (t.log.cls n).nextSet ↔ k = .warmReset ∨ k ∈ (s.log.cls n).nextSet) ∧
          (t.log.cls n).count = min ((s.log.cls n).count + 1) 65535)) ∧
    (∀ p, t.alertAsserted p = true ↔ t.log.major.first ≠ none) ∧
    t.slotPicks = s.slotPicks ∧ t.pending = s.pending

/-! ## Channel plan and settings -/

/-- The range check of a PLAN_WRITE (R4): when it fails, and that a write that fails it is refused RANGE; and the entry
that a write which passes it would store: for a bandwidth of 0 the absent entry, otherwise the given centre and
bandwidth, and the label unless it is absent or empty. -/
def Obligations.PlanWriteRangeCheck : Prop :=
  (∀ (p : Port) (body : List Byte) (s : State), s.Asks p .planWrite body → s.plan.discard = none →
    (PlanWriteBody.read body).check = none →
    exec (.planWrite p) s = .next { s with ports := s.answered p .range [] }) ∧
  ∀ w : PlanWriteBody, w.labelBytes.length = 16 →
    (w.check = none ↔
      95 < w.index ∨ (w.bandwidth ≠ 0 ∧ w.bandwidth ≠ 6000 ∧ w.bandwidth ≠ 7000 ∧ w.bandwidth ≠ 8000) ∨
        (w.bandwidth ≠ 0 ∧
          ((match w.centre with
            | none => True
            | some f => f % 250 ≠ 0 ∨ f < 164000 + w.bandwidth / 2 ∨ 876000 < f + w.bandwidth / 2) ∨
            (w.labelLength ≠ 255 ∧
              (16 < w.labelLength ∨ ∃ b ∈ w.labelBytes.take w.labelLength, b.toNat < 0x20 ∨ 0x7E < b.toNat))))) ∧
    (∀ x e, w.check = some (x, e) →
      x.val = w.index ∧ (e = none ↔ w.bandwidth = 0) ∧
        ∀ y, e = some y → w.centre = some y.centre ∧ y.bandwidth.khz = w.bandwidth ∧
          y.label = if w.labelLength = 255 ∨ w.labelLength = 0 then none else some (w.labelBytes.take w.labelLength))

/-- A message to the store that concerns a channel (R113): its lookup, its release or its restart allocation. -/
def concerns (x : PlanIndex) : StoreMsg → Bool
  | .lookup y => decide (x = y)
  | .release y => decide (x = y)
  | .restart y _ => decide (x = y)
  | .lock _ => false

/-- PLAN_WRITE (R5, R6): RANGE, LOCKED and IN_USE are checked in this order and a refused write changes nothing; an
accepted one replaces the entry, asks for the discard and is answered later. That an accepted one is not taken while the
store has still to take a lookup, a release or a restart allocation for the index, so that the discard meets none (R113),
is the model's reading (log entry 34). The body is plan index, centre, bandwidth and label, in 1, 4, 2 and 17 bytes, the
label one length byte and sixteen character bytes, and a centre of four bytes FFh is not given (R197, R200). PLAN_LOCK
(R17): the flag is set, whether it was clear or set, and the request is answered OK. -/
def Obligations.PlanWriteAndPlanLock : Prop :=
  (∀ (index c3 c2 c1 c0 w1 w0 length : Byte) (text : List Byte), text.length = 16 →
    PlanWriteBody.read (index :: c3 :: c2 :: c1 :: c0 :: w1 :: w0 :: length :: text) =
      { index := index.toNat, centre := givenIn [c3, c2, c1, c0], bandwidth := numberOf [w1, w0]
        labelLength := length.toNat, labelBytes := text }) ∧
  (∀ (p : Port) (body : List Byte) (s : State), s.Asks p .planWrite body → s.plan.discard = none →
    exec (.planWrite p) s = .next (
      match (PlanWriteBody.read body).check with
      | none => { s with ports := s.answered p .range [] }
      | some (x, e) =>
        if s.plan.lock = true then { s with ports := s.answered p .locked [] }
        else
          match allLanes.find? (fun l => decide ((s.lane l).state ≠ .free ∧ (s.lane l).channel = some x)) with
          | some l => { s with ports := s.answered p .inUse [BitVec.ofNat 8 l.val] }
          | none =>
            if allLanes.any (fun l => (s.mail.toStore.get l).any (concerns x)) = true then s
            else
              { s with plan := { s.plan with
                  entries := Tab.put s.plan.entries x e, discard := some { index := x, answerTo := some p } } })) ∧
  (∀ (p : Port) (body : List Byte) (s : State), s.Asks p .planLock body → s.plan.discard = none →
    exec (.planLock p) s = .next { s with plan := { s.plan with lock := true }, ports := s.answered p .ok [] })

/-- PLAN_DISCARD (R6, R7): the memo of the written index becomes empty and unpinned and moves to the least-recent end,
the others keep their relative order, and the write is answered OK with the entry as stored and whether a memo was
discarded. A write whose port's link has gone down since is not answered (R16). -/
def Obligations.PlanDiscardEmptiesTheMemo : Prop :=
  ∀ (x : PlanIndex) (asker : Option Port) (s : State), s.Settled →
    (∀ p, asker = some p → (s.port p).link = .attached) →
    s.plan.discard = some { index := x, answerTo := asker } →
    let answered := fun made : Byte => match asker with
      | none => s.ports
      | some p => s.answered p .ok (BitVec.ofNat 8 x.val :: (encEntry (s.entry x) ++ [made]))
    (∀ m, (s.memo m).tag = some x → (∀ k, (s.memo k).tag = some x → k = m) →
      exec .planDiscard s = .next { s with
        plan := { s.plan with discard := none }
        store := { s.store with
          memos := Tab.put s.store.memos m { tag := none, pinned := false, fields := Params.absent }
          order := s.store.order.filter (fun k => k ≠ m) ++ [m] }
        ports := answered 1 }) ∧
    ((∀ k, (s.memo k).tag ≠ some x) →
      exec .planDiscard s = .next { s with plan := { s.plan with discard := none }, ports := answered 0 })

/-- A value given in an INSTALL_SET as it is stored: clamped into its range, the stored value where it is absent
(R12). -/
def settingAfter (low high stored : Nat) : Option Nat → Nat
  | none => stored
  | some n => if n < low then low else if high < n then high else n

/-- A port in HOLDING has held for a hold time, in seconds, or longer (R14, R166). -/
def overdue (s : State) (hold : Nat) (p : Port) : Bool :=
  match (s.port p).holdStart with
  | none => false
  | some t0 => decide ((s.port p).link = .holding ∧ hold * 1000 ≤ (s.now - t0).toNat)

/-- The hold expiries of some ports, one after another, each as HOLD_EXPIRY takes it. -/
def Expires : List Port → State → State → Prop
  | [], s, t => t = s
  | p :: rest, s, t => ∃ u, exec (.holdExpiry p) s = .next u ∧ Expires rest u t

/-- The settings record after an INSTALL_SET: each given value clamped and stored (R12). -/
def recordAfter (stored : Settings) (b : InstallBody) : Settings :=
  { moveInterval := settingAfter 0 60000 stored.moveInterval b.moveInterval
    linger := settingAfter 0 255 stored.linger b.linger
    unsettle := settingAfter 1 1000 stored.unsettle b.unsettle
    hold := settingAfter 1 60 stored.hold b.hold
    policy := b.policy.getD stored.policy }

/-- INSTALL_SET (R12, R17, R35): under the lock it is refused LOCKED unless every field is absent, with the stored record;
otherwise each given value is stored clamped, the record as stored is answered, and the front end moves toward a target
that a changed policy gives it; where linger and hold time stay as they were nothing else changes, and where one changes
nothing else does while no lane lingers and no port holds. And where a changed hold time makes hold expiries due (R14;
those of lingering lanes have their own statement) and no lane's report waits: each has all the effects that HOLD_EXPIRY
has, one port after another in the order A, B, C, D (the model's choice, log entry 35); so every port in HOLDING that has
held for the new time or longer is UNATTACHED without its subscriptions, and every other keeps record and subscriptions,
but for the asking port's answer. The body is move interval, linger time and unsettle threshold in two bytes each, hold
time and policy in one; a field of bytes FFh is absent, and so is a policy code that names neither policy (R12, R197,
R198, R200). -/
def Obligations.InstallSetStoresClampedValues : Prop :=
  (∀ m1 m0 l1 l0 u1 u0 hold policy : Byte,
    InstallBody.read [m1, m0, l1, l0, u1, u0, hold, policy] =
      { moveInterval := givenIn [m1, m0], linger := givenIn [l1, l0], unsettle := givenIn [u1, u0]
        hold := givenIn [hold], policy := [StandbyPolicy.shallow, .deep][policy.toNat]? }) ∧
  (∀ (p : Port) (body : List Byte) (s : State), s.Asks p .installSet body → s.plan.discard = none →
    let b := InstallBody.read body
    let given := b.moveInterval.isSome || b.linger.isSome || b.unsettle.isSome || b.hold.isSome || b.policy.isSome
    let after := recordAfter s.plan.settings b
    let set : State := { s with plan := { s.plan with settings := after } }
    (s.plan.lock = true → given = true →
      exec (.installSet p) s = .next { s with ports := s.answered p .locked (encSettings s.plan.settings) }) ∧
    (s.plan.lock = false ∨ given = false →
      after.linger = s.plan.settings.linger ∨ (∀ l, (s.lane l).lingerStart = none) →
      after.hold = s.plan.settings.hold ∨ (∀ q, (s.port q).link ≠ .holding) →
      exec (.installSet p) s = .next { set with
        fe := steered s set.target, ports := s.answered p .ok (encSettings after) })) ∧
  ∀ (p : Port) (body : List Byte) (n : Nat) (s : State), s.Asks p .installSet body → s.plan.discard = none →
    s.plan.lock = false → s.mail.toAdm = [] → (∀ l, (s.lane l).lingerStart = none) →
    (InstallBody.read body).hold = some n →
    let after := recordAfter s.plan.settings (InstallBody.read body)
    after.hold ≠ s.plan.settings.hold →
    (∃ u, Expires ([Port.a, .b, .c, .d].filter (overdue s after.hold))
        { s with plan := { s.plan with settings := after } } u ∧
      exec (.installSet p) s = .next { u with
        fe := steered s u.target, ports := u.answered p .ok (encSettings after) }) ∧
    ∃ t, exec (.installSet p) s = .next t ∧ t.plan.settings = after ∧ t.fe = steered s t.target ∧
      (∀ q, (s.port q).link ≠ .holding →
        t.port q = (if q = p then (s.port p).answered .ok (encSettings after) else s.port q) ∧
          ∀ i, t.sub q i = s.sub q i) ∧
      ∀ q t0, (s.port q).link = .holding → (s.port q).holdStart = some t0 →
        (after.hold * 1000 ≤ (s.now - t0).toNat →
          t.port q = { s.port q with link := .unattached, holdStart := none } ∧ ∀ i, t.sub q i = none) ∧
        ((s.now - t0).toNat < after.hold * 1000 → t.port q = s.port q ∧ ∀ i, t.sub q i = s.sub q i)

/-- LINGER_EXPIRY (R85, R100, R35, R36, R38): a lane that has lingered for the linger time now set becomes FREE, tells the
store of its release and reports the change, and the front end moves toward the target that is left. INSTALL_SET with a
changed linger time (R14): every lane that is not FREE and has lingered for the new time or longer becomes FREE at the
change and tells the store and the admission controller, in ascending lane number (the model's choice, log entry 29);
every other lane keeps its record, its linger start with it, and the front end moves toward the target. -/
def Obligations.LingerExpiriesFreeTheLane : Prop :=
  (∀ (l : LaneId) (x : PlanIndex) (t0 : Time) (s : State), (s.lane l).state ≠ .free → (s.lane l).channel = some x →
    (s.lane l).lingerStart = some t0 → s.plan.settings.linger * 1000 ≤ (s.now - t0).toNat →
    let after : State := { s with
      lanes := Tab.put s.lanes l (freed (s.lane l))
      mail := { s.mail with
        toStore := Tab.put s.mail.toStore l (s.mail.toStore.get l ++ [StoreMsg.release x])
        toAdm := s.mail.toAdm ++ [AdmMsg.toFree l] } }
    exec (.lingerExpiry l) s = .next { after with fe := steered s after.target }) ∧
  (∀ (p : Port) (body : List Byte) (n : Nat) (s : State), s.Asks p .installSet body → s.plan.discard = none →
    s.plan.lock = false → (∀ q, (s.port q).link ≠ .holding) → (InstallBody.read body).linger = some n →
    min n 255 ≠ s.plan.settings.linger →
    let due := fun l => decide ((s.lane l).state ≠ .free) && (match (s.lane l).lingerStart with
      | none => false
      | some t0 => decide (min n 255 * 1000 ≤ (s.now - t0).toNat))
    ∃ t, exec (.installSet p) s = .next t ∧ t.plan.settings.linger = min n 255 ∧ t.fe = steered s t.target ∧
      (∀ l, t.lane l = if due l = true then freed (s.lane l) else s.lane l) ∧
      (∀ l, t.mail.toStore.get l = s.mail.toStore.get l ++
        if due l = true then releaseNotice (s.lane l) else []) ∧
      t = { s with
        plan := { s.plan with settings := t.plan.settings }
        fe := t.fe
        lanes := t.lanes
        mail := { s.mail with
          toStore := t.mail.toStore, toAdm := s.mail.toAdm ++ (allLanes.filter due).map AdmMsg.toFree }
        ports := s.answered p .ok (encSettings t.plan.settings) })

/-! ## Front end and antenna feed -/

/-- The target level (R34): ACTIVE exactly while some lane is not FREE; with every lane FREE, SHALLOW gives IDLE when
some ATTACHED port's standby level is IDLE and OFF otherwise, DEEP gives IDLE when all four ports are ATTACHED with that
level and OFF otherwise. -/
def Obligations.TargetLevelFollowsLanesAndDemands : Prop :=
  ∀ s : State,
    (s.target = .active ↔ ∃ l, (s.lane l).state ≠ .free) ∧
    ((∀ l, (s.lane l).state = .free) → s.plan.settings.policy = .shallow →
      (s.target = .idle ↔ ∃ p, (s.port p).link = .attached ∧ (s.admPort p).standby = .idle)) ∧
    ((∀ l, (s.lane l).state = .free) → s.plan.settings.policy = .deep →
      (s.target = .idle ↔ ∀ p, (s.port p).link = .attached ∧ (s.admPort p).standby = .idle))

/-- WAKE_COMPLETION (R37, R66): at the wake end, reached as log entry 3 reads a time, the front end is ACTIVE, active
since now; every lane that waits in WAIT with its questions answered enters SENSE where the feed is ON or OFF; nothing
else changes. RETUNE_COMPLETION (R43, R49, R66, R38): the front end is ACTIVE with its active-since stamp kept, the lanes
do the same, every ATTACHED port is given a WINDOW notice that shows W and ACTIVE, and where the target has fallen and
the minimum residency is over the front end then steps down to it. -/
def Obligations.CompletionsMakeTheInputUsable : Prop :=
  (∀ (t0 : Time) (s : State), s.fe.state = .waking → s.fe.wakeEnd = some t0 → (s.now - t0).toNat < 2147483648 →
    let awake : State := { s with fe := { s.fe with state := .active, wakeEnd := none, activeSince := some s.now } }
    ∃ lanes, exec .wakeCompletion s = .next { awake with lanes := lanes } ∧
      ∀ l, lanes.get l = sensing awake (s.lane l)) ∧
  (∀ (t0 : Time) (s : State), s.Settled → s.fe.state = .retuning → s.fe.retuneEnd = some t0 →
    (s.now - t0).toNat < 2147483648 →
    let tuned : State := { s with fe := { s.fe with state := .active, retuneEnd := none } }
    ∃ lanes, exec .retuneCompletion s = .next { s with
        fe := steppedDown tuned.fe s.now s.target
        lanes := lanes
        ports := s.ports.each (fun r => r.noticed (.window s.fe.window .active .retuneCompletion)) } ∧
      ∀ l, lanes.get l = sensing tuned (s.lane l))

/-- The stamps that are dropped (R33, R38, R40, R53): idle-since 110 ms after it was recorded, last-move 60,000 ms after,
last-restore more than 1,000 ms after; and active-since 2,000 ms after (MINIMUM_RESIDENCY_END): an ACTIVE front end whose
target is IDLE or OFF then steps down to that level. Nothing else changes. -/
def Obligations.StampsAreDroppedAtTheirAge : Prop :=
  (∀ (t0 : Time) (s : State),
    (s.fe.state = .idle → s.fe.idleSince = some t0 → 110 ≤ (s.now - t0).toNat →
      exec .idleWindowSettled s = .next { s with fe := { s.fe with idleSince := none } }) ∧
    (s.fe.lastMove = some t0 → 60000 ≤ (s.now - t0).toNat →
      exec .lastMoveStampDrop s = .next { s with fe := { s.fe with lastMove := none } }) ∧
    (s.fe.lastRestore = some t0 → 1000 < (s.now - t0).toNat →
      exec .lastRestoreStampDrop s = .next { s with fe := { s.fe with lastRestore := none } })) ∧
  (∀ (t0 : Time) (s : State), s.fe.activeSince = some t0 → 2000 ≤ (s.now - t0).toNat →
    (s.fe.state = .retuning ∨ (s.fe.state = .active ∧ s.target = .active) →
      exec .minimumResidencyEnd s = .next { s with fe := { s.fe with activeSince := none } }) ∧
    (s.fe.state = .active → s.target = .idle →
      exec .minimumResidencyEnd s = .next { s with fe := { s.fe with activeSince := none, state := .idle } }) ∧
    (s.fe.state = .active → s.target = .off →
      exec .minimumResidencyEnd s = .next { s with fe := { s.fe with activeSince := none, state := .off } }))

/-- CLIP_EVENT and QUIET_TIME_EXPIRY (R50): a clip in ACTIVE or RETUNING raises the setting by 2 dB up to 30, clears the
quiet time and reports FE_CLIP; 60,000 ms of quiet time lower it by 2 dB if it is above 0 and start the quiet time
again. -/
def Obligations.AttenuatorStepsOnClipAndQuiet : Prop :=
  ∀ s : State,
    (s.fe.state = .active ∨ s.fe.state = .retuning → s.fe.clipMute = 0 → s.fe.attenuator ≤ 30 →
      exec .clipEvent s = .next { s with
        fe := { s.fe with
          attenuator := if s.fe.attenuator + 2 ≤ 30 then s.fe.attenuator + 2 else 30, quiet := 0, clipMute := 50 }
        mail := { s.mail with toLog := s.mail.toLog ++ [{ kind := .feClip, port := none, lane := none, plan := none }] } }) ∧
    (60000 ≤ s.fe.quiet →
      exec .quietTimeExpiry s = .next { s with
        fe := { s.fe with
          attenuator := if 2 ≤ s.fe.attenuator then s.fe.attenuator - 2 else 0, quiet := 0 } })

/-- What the feed's entry into ON or OFF does to the lanes (R56, R66, R83, R88): a lane in HOLDOFF(FEED) restarts, reports
its return to ACQUIRE and, memo-less, asks for an allocation; it and a lane that waits in WAIT go on to SENSE where the
input is usable and their questions are answered; every other lane keeps its record. The reports of one event come in
ascending lane number (the model's choice, log entry 29). -/
def FeedReleases (s t : State) : Prop :=
  let held := fun l => decide ((s.lane l).state = .holdoff .feed)
  (∀ l, t.lane l = sensing t (if held l = true then restarted (s.lane l) else s.lane l)) ∧
  t.mail = { s.mail with
    toAdm := s.mail.toAdm ++ (allLanes.filter held).map (fun l => AdmMsg.state l .acquire), toStore := t.mail.toStore } ∧
  ∀ l, t.mail.toStore.get l = s.mail.toStore.get l ++ if held l = true then restartAsked (s.lane l) else []

/-- FEED_SET (R51, R56, R57): RANGE for a body that names neither; OFF in OFF, ON in ON and ON in FAULT_WAIT change
nothing; every other one takes the feed to the state named with retry count 0, no last-restore stamp and no wait, releases
the lanes, gives every ATTACHED port a FEED notice and is answered OK with state and count. That an idle downlink sends
the answer before the notice is the model's choice (log entry 12). -/
def Obligations.FeedSetFollowsItsTable : Prop :=
  ∀ (p : Port) (body : List Byte) (s : State), s.Asks p .feedSet body →
    (1 < byteAt body 0 → exec (.feedSet p) s = .next { s with ports := s.answered p .range [] }) ∧
    ((byteAt body 0 = 0 ∧ s.fe.feed = .off) ∨ (byteAt body 0 = 1 ∧ (s.fe.feed = .on ∨ s.fe.feed = .faultWait)) →
      exec (.feedSet p) s = .next { s with
        ports := s.answered p .ok [BitVec.ofNat 8 s.fe.feed.code, BitVec.ofNat 8 s.fe.retryCount] }) ∧
    ∀ target, (byteAt body 0 = 0 ∧ s.fe.feed ≠ .off ∧ target = FeedState.off) ∨
        (byteAt body 0 = 1 ∧ (s.fe.feed = .off ∨ s.fe.feed = .latched) ∧ target = FeedState.on) →
      ∃ t, exec (.feedSet p) s = .next t ∧
        t.fe = { s.fe with feed := target, retryCount := 0, lastRestore := none, feedWaitEnd := none } ∧
        FeedReleases s t ∧
        t.port p = (s.port p).answeredNoticed .ok [BitVec.ofNat 8 target.code, 0] (.feed target 0) ∧
        (∀ q, q ≠ p → t.port q = (s.port q).noticed (.feed target 0)) ∧
        t = { s with fe := t.fe, lanes := t.lanes, ports := t.ports, mail := t.mail }

/-- OVERCURRENT_EVENT with the feed ON (R52, R57, R88): the retry count is settled, with the last-restore stamp compared by
its presence and its age (log entry 20), then the feed latches or waits 10,000 ms, the fault is reported without a field,
every lane that is not FREE is in HOLDOFF(FEED) with its timers stopped and the rest of its record kept, a lane that was
in ACQUIRE, LOCKED or COAST reports its change, in ascending lane number (log entry 29), and every ATTACHED port is given
a FEED notice. FEED_RESTORE (R53, R56, R57): when the wait of FAULT_WAIT has run out, as log entry 3 reads a time, the
feed is ON, the retry count has risen by 1, the restore is stamped, the lanes in HOLDOFF(FEED) are released, every
ATTACHED port is given a FEED notice, and nothing is reported to the log. -/
def Obligations.FaultsCutAndRestoreTheFeed : Prop :=
  (∀ s : State, s.Settled → s.fe.feed = .on →
    let within := match s.fe.lastRestore with
      | none => false
      | some t0 => decide ((s.now - t0).toNat ≤ 1000)
    let count := if 0 < s.fe.retryCount ∧ within = false then 1 else s.fe.retryCount
    let latches := within && decide (count = 3)
    ∃ t, exec .overcurrentEvent s = .next t ∧
      t.fe = { s.fe with
        feed := if latches = true then .latched else .faultWait
        retryCount := count
        feedWaitEnd := if latches = true then none else some (s.now + 10000#32) } ∧
      t.mail = { s.mail with
        toAdm := s.mail.toAdm ++ (allLanes.filter (fun l =>
          decide ((s.lane l).state.kind ∈ [LaneKind.acquire, .locked, .coast]))).map (fun l => AdmMsg.state l .holdoff)
        toLog := s.mail.toLog ++ [{
          kind := if latches = true then .feedLatched else .feedFault, port := none, lane := none, plan := none }] } ∧
      (∀ l, t.lane l =
        if (s.lane l).state = .free ∨ (s.lane l).state = .holdoff .feed then s.lane l
        else { s.lane l with
          state := .holdoff .feed, stageTimer := none, recheckTimer := none, readPending := false, coastTimer := none,
          retryTimer := none }) ∧
      (∀ q, t.port q = (s.port q).noticed (.feed t.fe.feed t.fe.retryCount)) ∧
      t = { s with fe := t.fe, lanes := t.lanes, ports := t.ports, mail := t.mail }) ∧
  (∀ (t0 : Time) (s : State), s.Settled → s.fe.feed = .faultWait → s.fe.feedWaitEnd = some t0 →
    (s.now - t0).toNat < 2147483648 →
    ∃ t, exec .feedRestore s = .next t ∧
      t.fe = { s.fe with
        feed := .on, retryCount := s.fe.retryCount + 1, lastRestore := some s.now, feedWaitEnd := none } ∧
      FeedReleases s t ∧
      (∀ q, t.port q = (s.port q).noticed (.feed .on (s.fe.retryCount + 1))) ∧
      t = { s with fe := t.fe, lanes := t.lanes, ports := t.ports, mail := t.mail })

/-! ## The acquisition memo store -/

/-- Held memos and the victim (R92, R95): a memo is held when its tag is the channel of a lane the store counts in use;
the victim is the last memo of the recency order that is neither pinned nor held, and there is none when every memo of
the order is one or the other. -/
def Obligations.VictimIsTheLeastRecentFreeMemo : Prop :=
  ∀ s : State,
    (∀ m, s.memoHeld m = true ↔ ∃ l x, (s.memo m).tag = some x ∧ s.store.inUse.get l = some x) ∧
    (∀ m, s.victim = some m ↔ ∃ front back, s.store.order = front ++ m :: back ∧ (s.memo m).pinned = false ∧
      s.memoHeld m = false ∧ ∀ k ∈ back, (s.memo k).pinned = true ∨ s.memoHeld k = true) ∧
    (s.victim = none ↔ ∀ k ∈ s.store.order, (s.memo k).pinned = true ∨ s.memoHeld k = true)

/-- Make most recent (R94). -/
def mostRecent (m : MemoId) (order : List MemoId) : List MemoId := m :: order.filter (fun k => k ≠ m)

/-- The memo an allocation for a channel makes (R95). -/
def allocated (x : PlanIndex) : Memo := { tag := some x, pinned := false, fields := Params.absent }

/-- LOOKUP (R97): the lane is counted in use for the channel; a hit answers the memo and its fields and makes it most
recent; a miss allocates the victim; without a victim the answer names no memo and nothing else changes. -/
def Obligations.LookupHitsAllocatesOrFails : Prop :=
  ∀ (l : LaneId) (x : PlanIndex) (rest : List StoreMsg) (s : State), s.mail.toStore.get l = .lookup x :: rest →
    let counted := { s with store := { s.store with inUse := Tab.put s.store.inUse l (some x) } }
    let mail := fun answer : Option (MemoId × Params) => { s.mail with
      toStore := Tab.put s.mail.toStore l rest
      toLane := Tab.put s.mail.toLane l (s.mail.toLane.get l ++ [LaneMsg.lookup x answer]) }
    (∀ m, (s.memo m).tag = some x → (∀ k, (s.memo k).tag = some x → k = m) →
      exec (.lookup l) s = .next { counted with
        store := { counted.store with order := mostRecent m s.store.order }
        mail := mail (some (m, (s.memo m).fields)) }) ∧
    ((∀ k, (s.memo k).tag ≠ some x) →
      (∀ m, counted.victim = some m →
        exec (.lookup l) s = .next { counted with
          store := { counted.store with
            memos := Tab.put s.store.memos m (allocated x), order := mostRecent m s.store.order }
          mail := mail (some (m, Params.absent)) }) ∧
      (counted.victim = none → exec (.lookup l) s = .next { counted with mail := mail none }))

/-- What the store takes from the lanes besides lookups. LOCK_NOTICE and RELEASE_NOTICE (R99, R100): a lock notice makes
the memo named most recent and changes no field; a release notice stops the lane being counted in use and leaves memos
and order as they were. RESTART_ALLOCATION (R101): the channel's memo, or the victim allocated for it, is made most
recent and takes exactly the lane's fields with the rate recomputed, a tagged one keeping its pin; without a victim
nothing changes. That the allocation of a lane released since leaves the fields of a memo that is another lane's by now is
the model's reading (log entry 40). -/
def Obligations.StoreTakesLaneMessages : Prop :=
  (∀ (l : LaneId) (rest : List StoreMsg) (s : State),
    (∀ m, s.mail.toStore.get l = .lock m :: rest →
      exec (.lockNotice l) s = .next { s with
        store := { s.store with order := mostRecent m s.store.order }
        mail := { s.mail with toStore := Tab.put s.mail.toStore l rest } }) ∧
    (∀ x, s.mail.toStore.get l = .release x :: rest →
      exec (.releaseNotice l) s = .next { s with
        store := { s.store with inUse := Tab.put s.store.inUse l none }
        mail := { s.mail with toStore := Tab.put s.mail.toStore l rest } })) ∧
  (∀ (l : LaneId) (x : PlanIndex) (f : Params) (rest : List StoreMsg) (s : State),
    s.mail.toStore.get l = .restart x f :: rest →
    let fields := { f with streamRate := rateFrom (s.bandwidth x) f }
    let mail := fun answer : Option MemoId => { s.mail with
      toStore := Tab.put s.mail.toStore l rest
      toLane := Tab.put s.mail.toLane l (s.mail.toLane.get l ++ [LaneMsg.restart x answer]) }
    let another := ∃ k, k ≠ l ∧ (s.lane k).channel = some x ∧ s.store.inUse.get k = some x
    (∀ m, (s.memo m).tag = some x → (∀ k, (s.memo k).tag = some x → k = m) →
      exec (.restartAllocation l) s = .next { s with
        store := { s.store with
          memos := if another then s.store.memos else Tab.put s.store.memos m { s.memo m with fields := fields }
          order := mostRecent m s.store.order }
        mail := mail (some m) }) ∧
    ((∀ k, (s.memo k).tag ≠ some x) →
      (∀ m, s.victim = some m →
        exec (.restartAllocation l) s = .next { s with
          store := { s.store with
            memos := Tab.put s.store.memos m { tag := some x, pinned := false, fields := fields }
            order := mostRecent m s.store.order }
          mail := mail (some m) }) ∧
      (s.victim = none → exec (.restartAllocation l) s = .next { s with mail := mail none })))

/-- MEMO_PIN, in the order of the five cases of R102. That NO_CHANNEL also answers a pin taken between a PLAN_WRITE that
deletes the entry and its discard, where the table of R7 lets the pin act on the old memo or allocate one, is the model's
reading (log entry 42). -/
def Obligations.MemoPinPinsOrAllocates : Prop :=
  ∀ (p : Port) (body : List Byte) (s : State), s.Asks p .memoPin body →
    (95 < byteAt body 0 → exec (.memoPin p) s = .next { s with ports := s.answered p .range [] }) ∧
    ∀ x : PlanIndex, byteAt body 0 = x.val →
      (s.entry x = none → exec (.memoPin p) s = .next { s with ports := s.answered p .noChannel [] }) ∧
      ((s.entry x).isSome →
        (∀ m, (s.memo m).tag = some x → (∀ k, (s.memo k).tag = some x → k = m) →
          exec (.memoPin p) s = .next { s with
            store := { s.store with
              memos := Tab.put s.store.memos m { s.memo m with pinned := true }, order := mostRecent m s.store.order }
            ports := s.answered p .ok [BitVec.ofNat 8 m.val, 0, 0xFF] }) ∧
        ((∀ k, (s.memo k).tag ≠ some x) →
          (∀ m, s.victim = some m →
            exec (.memoPin p) s = .next { s with
              store := { s.store with
                memos := Tab.put s.store.memos m { allocated x with pinned := true }
                order := mostRecent m s.store.order }
              ports := s.answered p .ok [BitVec.ofNat 8 m.val, 1,
                match (s.memo m).tag with
                | none => 0xFF
                | some y => BitVec.ofNat 8 y.val] }) ∧
          (s.victim = none → exec (.memoPin p) s = .next { s with ports := s.answered p .allPinned [] })))

/-- MEMO_UNPIN and MEMO_RELEASE_ALL (R103, R104): an unpin clears the pin of the channel's memo and makes it most recent,
refused RANGE or ABSENT; a release of all clears every pin, keeps tags, fields and order, and answers how many pins it
cleared. -/
def Obligations.MemoUnpinAndReleaseAllClearPins : Prop :=
  ∀ (p : Port) (body : List Byte) (s : State),
    (s.Asks p .memoUnpin body →
      (95 < byteAt body 0 → exec (.memoUnpin p) s = .next { s with ports := s.answered p .range [] }) ∧
      ∀ x : PlanIndex, byteAt body 0 = x.val →
        ((∀ k, (s.memo k).tag ≠ some x) → exec (.memoUnpin p) s = .next { s with ports := s.answered p .absent [] }) ∧
        ∀ m, (s.memo m).tag = some x → (∀ k, (s.memo k).tag = some x → k = m) →
          exec (.memoUnpin p) s = .next { s with
            store := { s.store with
              memos := Tab.put s.store.memos m { s.memo m with pinned := false }, order := mostRecent m s.store.order }
            ports := s.answered p .ok [BitVec.ofNat 8 m.val] }) ∧
    (s.Asks p .memoReleaseAll body →
      ∃ memos, exec (.memoReleaseAll p) s = .next { s with
          store := { s.store with memos := memos }
          ports := s.answered p .ok [BitVec.ofNat 8 (allMemos.filter (fun m => (s.memo m).pinned)).length] } ∧
        ∀ m, memos.get m = { s.memo m with pinned := false })

/-- MEMO_FLUSH and MEMO_FLUSH_UNPINNED (R105, R106): the first empties every memo that is not held and clears every pin,
the second empties every memo that is neither pinned nor held and keeps the pins; both reset the order to 15, 14, … , 0
and answer how many tags they removed and how many tagged memos they kept. -/
def Obligations.MemoFlushesEmptyTheStore : Prop :=
  ∀ (p : Port) (body : List Byte) (s : State),
    (s.Asks p .memoFlush body →
      ∃ memos, exec (.memoFlush p) s = .next { s with
          store := { s.store with memos := memos, order := [15, 14, 13, 12, 11, 10, 9, 8, 7, 6, 5, 4, 3, 2, 1, 0] }
          ports := s.answered p .ok [
            BitVec.ofNat 8 (allMemos.filter (fun m => (s.memo m).tag.isSome && !s.memoHeld m)).length,
            BitVec.ofNat 8 (allMemos.filter (fun m => s.memoHeld m)).length] } ∧
        ∀ m, memos.get m = if s.memoHeld m = true then { s.memo m with pinned := false }
          else { tag := none, pinned := false, fields := Params.absent }) ∧
    (s.Asks p .memoFlushUnpinned body →
      ∃ memos, exec (.memoFlushUnpinned p) s = .next { s with
          store := { s.store with memos := memos, order := [15, 14, 13, 12, 11, 10, 9, 8, 7, 6, 5, 4, 3, 2, 1, 0] }
          ports := s.answered p .ok [
            BitVec.ofNat 8 (allMemos.filter (fun m =>
              (s.memo m).tag.isSome && !(s.memo m).pinned && !s.memoHeld m)).length,
            BitVec.ofNat 8 (allMemos.filter (fun m =>
              (s.memo m).tag.isSome && ((s.memo m).pinned || s.memoHeld m))).length] } ∧
        ∀ m, memos.get m = if (s.memo m).pinned = true ∨ s.memoHeld m = true then s.memo m
          else { tag := none, pinned := false, fields := Params.absent })

/-- A field of a seed over the memo's own (R108). -/
def seeded {α : Type} (given stored : Option α) : Option α :=
  match given with
  | none => stored
  | some v => some v

/-- MEMO_SEED (R107, R108): RANGE for an index above 95 or a given code outside its set, then ABSENT, then IN_USE with the
lane; an accepted seed writes the given fields, keeps the others, recomputes the rate where guard, constellation or code
rate is given and keeps it otherwise (R93), leaves pin and order, and answers the memo as stored. The eleven bytes of the
body are index, offset, carrier mode, guard, constellation, code rate and cell identifier, in 1, 2, 1, 1, 1, 1 and 4 bytes,
a field of bytes FFh not given (R197, R198, R200): it is out of range exactly where a given code is outside its set or a
given cell is above 65,535 (R107), and a given offset, the number less 32,768, is clamped into -500 to +500 kHz (R108).
The model's choices in it: where the store counts two lanes in use for the index, IN_USE names the lowest-numbered (log
entry 30), and a rate recomputed for an entry that a PLAN_WRITE has just deleted is absent (log entry 39). -/
def Obligations.MemoSeedWritesTheGivenFields : Prop :=
  (∀ index o1 o0 mode guard constellation codeRate c3 c2 c1 c0 : Byte,
    let body := [index, o1, o0, mode, guard, constellation, codeRate, c3, c2, c1, c0]
    (SeedBody.read body = none ↔
      (2 < mode.toNat ∧ mode ≠ 0xFF) ∨ (3 < guard.toNat ∧ guard ≠ 0xFF) ∨
        (2 < constellation.toNat ∧ constellation ≠ 0xFF) ∨ (4 < codeRate.toNat ∧ codeRate ≠ 0xFF) ∨
        ∃ cell, givenIn [c3, c2, c1, c0] = some cell ∧ 65535 < cell) ∧
    ∀ b, SeedBody.read body = some b →
      b.offset = (givenIn [o1, o0]).map (fun n =>
        let kHz : Int := (n : Int) - 32768
        if kHz < -500 then -500 else if 500 < kHz then 500 else kHz) ∧
      b.mode = [CarrierMode.s, .m, .l][mode.toNat]? ∧ b.guard = [Guard.g4, .g8, .g16, .g32][guard.toNat]? ∧
      b.constellation = [Constellation.p4, .p16, .p64][constellation.toNat]? ∧
      b.codeRate = [CodeRate.r12, .r23, .r34, .r56, .r78][codeRate.toNat]? ∧
      b.cell = (givenIn [c3, c2, c1, c0]).map (fun n => BitVec.ofNat 16 n)) ∧
  ∀ (p : Port) (body : List Byte) (s : State), s.Asks p .memoSeed body →
    (95 < byteAt body 0 ∨ SeedBody.read body = none →
      exec (.memoSeed p) s = .next { s with ports := s.answered p .range [] }) ∧
    ∀ (x : PlanIndex) (b : SeedBody), byteAt body 0 = x.val → SeedBody.read body = some b →
      ((∀ k, (s.memo k).tag ≠ some x) → exec (.memoSeed p) s = .next { s with ports := s.answered p .absent [] }) ∧
      ∀ m, (s.memo m).tag = some x → (∀ k, (s.memo k).tag = some x → k = m) →
        (∀ l, s.inUseLane x = some l →
          exec (.memoSeed p) s = .next { s with ports := s.answered p .inUse [BitVec.ofNat 8 l.val] }) ∧
        ((∀ l, s.store.inUse.get l ≠ some x) →
          let f := (s.memo m).fields
          let written : Params := { f with
            offset := seeded b.offset f.offset, mode := seeded b.mode f.mode, guard := seeded b.guard f.guard
            constellation := seeded b.constellation f.constellation, codeRate := seeded b.codeRate f.codeRate
            cell := seeded b.cell f.cell }
          let fields := { written with
            streamRate := if b.guard.isSome || b.constellation.isSome || b.codeRate.isSome then
                rateFrom (s.bandwidth x) written
              else f.streamRate }
          exec (.memoSeed p) s = .next { s with
            store := { s.store with memos := Tab.put s.store.memos m { s.memo m with fields := fields } }
            ports := s.answered p .ok (BitVec.ofNat 8 m.val ::
              ((if (s.memo m).pinned = true then 1 else 0) ::
                (BitVec.ofNat 8 (s.store.order.idxOf m) :: encParams fields))) })

/-- The fields of a plan entry in an answer (R10, R201): centre, bandwidth, and a label of one length byte and sixteen
character bytes, those beyond the length free (log entry 8); absent fields read all-ones. -/
def entryFields (e : Option PlanEntry) : List Byte :=
  field 4 (e.map (fun x => x.centre)) ++ field 2 (e.map (fun x => x.bandwidth.khz)) ++
    match e.bind (fun x => x.label) with
    | none => List.replicate 17 0xFF
    | some text => bytesOf 1 text.length ++ (text ++ (List.range (16 - text.length)).map Config.labelFill)

/-- The seven fields of a memo or a parameter set in an answer (R201). -/
def signalFields (f : Params) : List Byte :=
  field 2 (f.offset.map (fun kHz => (kHz + 32768).toNat)) ++ field 1 (f.mode.map (fun x => x.code)) ++
    field 1 (f.guard.map (fun x => x.code)) ++ field 1 (f.constellation.map (fun x => x.code)) ++
    field 1 (f.codeRate.map (fun x => x.code)) ++ field 4 (f.cell.map (fun x => x.toNat)) ++ field 2 f.streamRate

/-- The entry of one memo in a snapshot (R110, R201): tag, flag set (pinned, held), position, and the presence set, bit 0
the offset to bit 6 the stream rate. -/
def snapshotEntry (s : State) (m : MemoId) : List Byte :=
  let f := (s.memo m).fields
  field 1 ((s.memo m).tag.map (fun x => x.val)) ++ bytesOf 1 (flagSet (s.memo m).pinned (s.memoHeld m)) ++
    bytesOf 1 (s.store.order.idxOf m) ++ bytesOf 1 (flag f.offset.isSome + 2 * flag f.mode.isSome +
      4 * flag f.guard.isSome + 8 * flag f.constellation.isSome + 16 * flag f.codeRate.isSome +
      32 * flag f.cell.isSome + 64 * flag f.streamRate.isSome)

/-- The requests that read and change nothing but their port's answer (R10, R109, R110, R190): PLAN_READ,
MEMO_READ, MEMO_SNAPSHOT and LOG_READ each leave every block as it was. What the reads of the plan and of the memo store
answer (R10, R109, R110, R201): RANGE above 95; the entry with the lane that holds it; ABSENT where no memo carries the
index, else the memo's number, flags, position and fields; and of a snapshot the sixteen entries in memo-number order. -/
def Obligations.ReadsAnswerAndChangeNothing : Prop :=
  (∀ (p : Port) (body : List Byte) (s : State),
    (s.Asks p .planRead body → s.plan.discard = none →
      ∃ status fields, exec (.planRead p) s = .next { s with ports := s.answered p status fields }) ∧
    (s.Asks p .memoRead body →
      ∃ status fields, exec (.memoRead p) s = .next { s with ports := s.answered p status fields }) ∧
    (s.Asks p .memoSnapshot body →
      ∃ fields, fields.length = 64 ∧ exec (.memoSnapshot p) s = .next { s with ports := s.answered p .ok fields }) ∧
    (s.Asks p .logRead body →
      ∃ status fields, exec (.logRead p) s = .next { s with ports := s.answered p status fields })) ∧
  (∀ (p : Port) (body : List Byte) (s : State),
    (s.Asks p .planRead body → s.plan.discard = none →
      (95 < byteAt body 0 → exec (.planRead p) s = .next { s with ports := s.answered p .range [] }) ∧
      ∀ x : PlanIndex, byteAt body 0 = x.val →
        (∀ l, (s.lane l).state ≠ .free → (s.lane l).channel = some x →
          (∀ k, (s.lane k).state ≠ .free → (s.lane k).channel = some x → k = l) →
          exec (.planRead p) s = .next { s with
            ports := s.answered p .ok (BitVec.ofNat 8 x.val :: (encEntry (s.entry x) ++ [BitVec.ofNat 8 l.val])) }) ∧
        ((∀ l, (s.lane l).channel = some x → (s.lane l).state = .free) →
          exec (.planRead p) s = .next { s with
            ports := s.answered p .ok (BitVec.ofNat 8 x.val :: (encEntry (s.entry x) ++ [0xFF])) })) ∧
    (s.Asks p .memoRead body →
      (95 < byteAt body 0 → exec (.memoRead p) s = .next { s with ports := s.answered p .range [] }) ∧
      ∀ x : PlanIndex, byteAt body 0 = x.val →
        ((∀ k, (s.memo k).tag ≠ some x) → exec (.memoRead p) s = .next { s with ports := s.answered p .absent [] }) ∧
        ∀ m, (s.memo m).tag = some x → (∀ k, (s.memo k).tag = some x → k = m) →
          exec (.memoRead p) s = .next { s with
            ports := s.answered p .ok (BitVec.ofNat 8 m.val ::
              (BitVec.ofNat 8 ((if (s.memo m).pinned = true then 1 else 0) + (if s.memoHeld m = true then 2 else 0)) ::
                (BitVec.ofNat 8 (s.store.order.idxOf m) :: encParams (s.memo m).fields))) }) ∧
    (s.Asks p .memoSnapshot body →
      let every : List MemoId := [0, 1, 2, 3, 4, 5, 6, 7, 8, 9, 10, 11, 12, 13, 14, 15]
      exec (.memoSnapshot p) s = .next { s with ports := s.answered p .ok (every.flatMap (snapshotEntry s)) })) ∧
  (∀ e, encEntry e = entryFields e) ∧ ∀ f, encParams f = signalFields f

/-- The fields of a subscription answer, in the order of R201. -/
def subscriptionFields (s : State) (q : Port) (i : SubId) (u : Sub) : List Byte :=
  bytesOf 1 q.code ++ bytesOf 1 i.val ++ bytesOf 1 u.channel.val ++ bytesOf 1 u.lane.val ++ bytesOf 1 u.mode.code ++
    field 1 ((s.derivedState q u).map (fun x => x.code)) ++ bytesOf 1 (flag u.overload) ++ bytesOf 2 u.charge ++
    bytesOf 1 u.continuity.toNat ++ bytesOf 1 (flagSet u.firstAfter u.liveMark) ++ bytesOf 4 u.delivered ++
    bytesOf 4 u.marked ++ bytesOf 4 u.errorDropped ++ bytesOf 4 u.overflowDropped ++ bytesOf 1 u.pids.length ++
    u.pids.flatMap (fun pid => bytesOf 2 pid)

/-- The fields of a lane answer, in the order of R201; channel, share count and charging rate are the admission
controller's (R178), and channel and rate do not apply to a FREE lane (R133). -/
def laneFields (s : State) (l : LaneId) : List Byte :=
  let x := s.lane l
  let a := s.admLane l
  let timer := fun t : Option Time => field 4 (t.map (fun t => stillToRun s.now t))
  bytesOf 1 l.val ++ bytesOf 1 (match x.state with
      | .free => 0
      | .acquire _ => 1
      | .locked => 2
      | .coast => 3
      | .holdoff _ => 4) ++
    field 1 (match x.state with
      | .acquire st => some st.code
      | _ => none) ++
    field 1 (if x.state = .free then none else a.channel.map (fun c => c.val)) ++
    field 1 (x.memo.map (fun m => m.val)) ++ bytesOf 1 a.share ++ bytesOf 1 x.attempts ++
    field 1 (match x.state with
      | .holdoff reason => some reason.code
      | _ => none) ++
    signalFields x.params ++ bytesOf 1 (flagSet x.unsettled.isSome x.readPending) ++ timer x.unsettled ++
    field 4 (x.lingerStart.map (fun t => s.plan.settings.linger * 1000 - (s.now - t).toNat)) ++ timer x.stageTimer ++
    timer x.recheckTimer ++ timer x.coastTimer ++ timer x.retryTimer ++ bytesOf 4 x.packets ++
    bytesOf 4 x.correctedPackets ++ bytesOf 4 x.correctedBytes ++ bytesOf 4 x.uncorrectable ++
    bytesOf 2 x.windowPackets ++ bytesOf 2 x.windowUncorrectable ++
    field 2 (if x.state = .free then none else a.rate)

/-- The fields of a front-end answer, in the order of R201. -/
def frontEndFields (s : State) : List Byte :=
  bytesOf 1 s.fe.state.code ++ bytesOf 1 (match s.target with
      | .off => 0
      | .idle => 1
      | .active => 3) ++
    bytesOf 4 s.fe.window ++ field 4 (s.fe.lastMove.map (fun t => (s.now - t).toNat)) ++ bytesOf 1 s.fe.attenuator ++
    bytesOf 1 s.fe.feed.code ++ bytesOf 1 s.fe.retryCount

/-- The fields of a port answer, in the order of R201. -/
def portFields (s : State) (q : Port) : List Byte :=
  let r := s.port q
  let a := s.admPort q
  bytesOf 1 r.link.code ++
    field 4 (r.holdStart.map (fun t => s.plan.settings.hold * 1000 - (s.now - t).toNat)) ++
    field 1 (r.attach.map (fun x => x.code)) ++ bytesOf 1 r.requests.length ++ bytesOf 1 r.responses.length ++
    bytesOf 1 r.notices.length ++ bytesOf 1 (match r.downlink with
      | .idle => 0
      | .response => 1
      | .notice _ => 2
      | .packet => 3) ++
    field 4 (r.pulseEnd.map (fun t => stillToRun s.now t)) ++ bytesOf 4 r.checkFailures ++ bytesOf 4 r.busyAnswers ++
    bytesOf 4 r.requestsLost ++ bytesOf 4 a.capacity ++ bytesOf 4 a.committed ++ bytesOf 1 a.standby.code ++
    bytesOf 1 (allIds.filter (fun i => (s.sub q i).isSome)).length ++ bytesOf 1 (s.quota q) ++
    bytesOf 1 (s.queue q).length ++ bytesOf 1 (flag (decide (r.downlink = .packet))) ++
    bytesOf 1 (allSlots.filter (fun i => decide (s.slot i = none))).length

/-- The codes of the enumerations of the answers (R198). -/
def CodesOfTheAnswers : Prop :=
  [Port.a, .b, .c, .d].map Port.code = [0, 1, 2, 3] ∧
  [CarrierMode.s, .m, .l].map CarrierMode.code = [0, 1, 2] ∧
  [Guard.g4, .g8, .g16, .g32].map Guard.code = [0, 1, 2, 3] ∧
  [Constellation.p4, .p16, .p64].map Constellation.code = [0, 1, 2] ∧
  [CodeRate.r12, .r23, .r34, .r56, .r78].map CodeRate.code = [0, 1, 2, 3, 4] ∧
  [ErrorMode.mark, .drop].map ErrorMode.code = [0, 1] ∧
  [StandbyLevel.idle, .off].map StandbyLevel.code = [0, 1] ∧
  [StandbyPolicy.shallow, .deep].map StandbyPolicy.code = [0, 1] ∧
  [FeedState.off, .on, .faultWait, .latched].map FeedState.code = [0, 1, 2, 3] ∧
  [FrontEndState.off, .idle, .waking, .active, .retuning].map FrontEndState.code = [0, 1, 2, 3, 4] ∧
  [Stage.wait, .sense, .carrier, .frame, .verify, .stream].map Stage.code = [0, 1, 2, 3, 4, 5] ∧
  [HoldoffReason.noSignal, .failed, .feed].map HoldoffReason.code = [0, 1, 2] ∧
  [SubState.held, .overload, .pending, .live, .interrupted, .noSignal].map SubState.code = [0, 1, 2, 3, 4, 5] ∧
  [LinkState.unattached, .attached, .holding].map LinkState.code = [0, 1, 2] ∧
  [AttachKind.fresh, .resumed].map AttachKind.code = [0, 1] ∧
  [Severity.ignore, .advisory, .degraded, .serious, .critical].map Severity.code = [0, 1, 2, 3, 4] ∧
  [ClassName.minor, .major].map ClassName.code = [0, 1] ∧
  [Status.ok, .busy, .unsupported, .malformed, .range, .locked, .inUse, .noChannel, .noSuch, .absent, .duplicate, .limit,
    .window, .moveNeeded, .moveTooSoon, .noLane, .capacity, .quota, .allPinned].map Status.code =
      (List.range 19).map (fun n => BitVec.ofNat 8 n)

/-- STATUS (R178, R198, R201): a code outside its set is refused RANGE, an id not in use NO_SUCH, and every other request
is answered with the record it names, field by field in the order of R201; with the status byte a subscription answer with
n PIDs is 29 + 2n bytes (61 with 16), a lane answer 68, a front-end answer 14 and a port answer 41. Nothing else changes.
That one answer reads every block in one step is the model's choice (log entry 38). -/
def Obligations.StatusAnswersItsVariant : Prop :=
  (∀ (p : Port) (body : List Byte) (s : State), s.Asks p .status body →
    (byteAt body 0 = 0 →
      (3 < byteAt body 1 ∨ 5 < byteAt body 2 →
        exec (.statusSubscription p) s = .next { s with ports := s.answered p .range [] }) ∧
      ∀ (q : Port) (i : SubId), byteAt body 1 = q.code → byteAt body 2 = i.val →
        (s.sub q i = none → exec (.statusSubscription p) s = .next { s with ports := s.answered p .noSuch [] }) ∧
        ∀ u, s.sub q i = some u →
          exec (.statusSubscription p) s = .next { s with ports := s.answered p .ok (encSub q i u s) }) ∧
    (byteAt body 0 = 1 →
      (5 < byteAt body 1 → exec (.statusLane p) s = .next { s with ports := s.answered p .range [] }) ∧
      ∀ l : LaneId, byteAt body 1 = l.val →
        exec (.statusLane p) s = .next { s with ports := s.answered p .ok (encLane l s) }) ∧
    (byteAt body 0 = 2 → exec (.statusFrontEnd p) s = .next { s with ports := s.answered p .ok (encFrontEnd s) }) ∧
    (byteAt body 0 = 3 →
      (3 < byteAt body 1 → exec (.statusPort p) s = .next { s with ports := s.answered p .range [] }) ∧
      ∀ q : Port, byteAt body 1 = q.code →
        exec (.statusPort p) s = .next { s with ports := s.answered p .ok (encPort q s) })) ∧
  (∀ s : State,
    (∀ q i u, (encSub q i u s).length + 1 = 29 + 2 * u.pids.length) ∧ (∀ l, (encLane l s).length + 1 = 68) ∧
    (encFrontEnd s).length + 1 = 14 ∧ ∀ q, (encPort q s).length + 1 = 41) ∧
  (∀ s : State, (∀ q i u, encSub q i u s = subscriptionFields s q i u) ∧ (∀ l, encLane l s = laneFields s l) ∧
    encFrontEnd s = frontEndFields s ∧ ∀ q, encPort q s = portFields s q) ∧ CodesOfTheAnswers

/-! ## Capacity arithmetic -/

/-- The lowest lower edge and the highest upper edge of some channels stand within these bounds (R31). -/
def spans (low high : Nat) (channels : List PlanEntry) : Prop :=
  (∃ e ∈ channels, e.centre - e.bandwidth.khz / 2 = low) ∧ (∃ e ∈ channels, e.centre + e.bandwidth.khz / 2 = high) ∧
    ∀ e ∈ channels, low ≤ e.centre - e.bandwidth.khz / 2 ∧ e.centre + e.bandwidth.khz / 2 ≤ high

/-- The capacity arithmetic: a stream rate is the whole part of N / D, lies between 4,067 and 34,510 and is at most the
provisional rate of its bandwidth (R22 to R24); a link load is r × 192 / 188 rounded up (R25); capacities and window
positions are rounded down to a thousand and clamped (R27, R29); a channel fits a position when both its edges keep their
margin (R30); a placement is the first candidate of R31, else the second of R32, the first of the two that every channel
of the set fits, and WINDOW where neither is or the span is above 256,000; it is then a window position, and there is one
where the slack is above 750 (R31, R32); and the set is made of the channels of the lanes whose share count is above 0
(R31, R126). -/
def Obligations.CapacityArithmeticIsExact : Prop :=
  (∀ (b : Bandwidth) (g : Guard) (c : Constellation) (r : CodeRate),
    let d := 2 * r.denominator * 208 * (g.denominator + 1) * 8
    let n := 15 * c.bits * r.numerator * 188 * g.denominator * b.mhz * 1000
    streamRateOf b g c r * d ≤ n ∧ n < (streamRateOf b g c r + 1) * d ∧ 4067 ≤ streamRateOf b g c r ∧
      streamRateOf b g c r ≤ 34510 ∧ streamRateOf b g c r ≤ provisionalRate b) ∧
  (∀ b, provisionalRate b = streamRateOf b .g32 .p64 .r78) ∧
  (provisionalRate .b8 = 34510 ∧ provisionalRate .b7 = 30196 ∧ provisionalRate .b6 = 25882) ∧
  (∀ rate, rate * 192 ≤ 188 * linkLoad rate ∧ 188 * linkLoad rate < rate * 192 + 188) ∧
  (∀ n, roundCapacity n % 1000 = 0 ∧ 10000 ≤ roundCapacity n ∧ roundCapacity n ≤ 200000 ∧
    (10000 ≤ n → n < 201000 → roundCapacity n ≤ n ∧ n < roundCapacity n + 1000) ∧
    (n < 10000 → roundCapacity n = 10000) ∧ (201000 ≤ n → roundCapacity n = 200000)) ∧
  (∀ n, isPosition (roundWindow n) ∧ (160000 ≤ n → n < 625000 → roundWindow n ≤ n ∧ n < roundWindow n + 1000) ∧
    (n < 160000 → roundWindow n = 160000) ∧ (625000 ≤ n → roundWindow n = 624000)) ∧
  (∀ w e, fits w e = true ↔
    w + 4000 ≤ e.centre - e.bandwidth.khz / 2 ∧ e.centre + e.bandwidth.khz / 2 ≤ w + 252000) ∧
  (∀ (s : State) (e : PlanEntry),
    e ∈ s.sharedEntries ↔ ∃ l x, 0 < (s.admLane l).share ∧ (s.lane l).channel = some x ∧ s.entry x = some e) ∧
  ∀ (x : PlanEntry) (others : List PlanEntry),
    (∀ position, placement x others = some position →
      isPosition position ∧ ∀ e ∈ x :: others, fits position e = true) ∧
    ∀ low high, spans low high (x :: others) →
      (256000 < high - low + 8000 → placement x others = none) ∧
      (high - low + 8000 ≤ 256000 →
        let ideal := low - 4000 - (256000 - (high - low + 8000)) / 2
        let first := max 160000 (min 624000 (ideal / 1000 * 1000))
        let second := max 160000 (min 624000 (first + 1000))
        ((∀ e ∈ x :: others, fits first e = true) → placement x others = some first) ∧
          (¬ (∀ e ∈ x :: others, fits first e = true) →
            ((∀ e ∈ x :: others, fits second e = true) → placement x others = some second) ∧
            (¬ (∀ e ∈ x :: others, fits second e = true) → placement x others = none))) ∧
      (high - low + 8000 + 750 < 256000 →
        (∀ e ∈ x :: others, e.centre % 250 = 0 ∧ 164000 + e.bandwidth.khz / 2 ≤ e.centre ∧
          e.centre + e.bandwidth.khz / 2 ≤ 876000) →
        ∃ position, placement x others = some position)

/-! ## Admission requests -/

/-- How many places after the port served last a port stands in the arbiter's round (R122). -/
def turnsAfter (last p : Port) : Nat := (p.code + 3 - last.code) % 4

/-- The command by which the admission controller takes a request of a port (R122). -/
def admissionCommands (p : Port) : List (ReqKind × Instr) :=
  [(.subscribe, .subscribe p), (.unsubscribe, .unsubscribe p), (.filterSet, .filterSet p), (.portSetup, .portSetup p),
    (.portReset, .portReset p), (.windowSet, .windowSet p)]

/-- The admission arbiter (R122): it grants the waiting port that stands nearest after the one served last; a port it
does not grant is not taken, and the command then changes nothing (log entries 4 and 5); and the port taken becomes the
one served last. Every port whose head request is an admission request waits, but for a SUBSCRIBE that names the index of
a discard not yet made: it stands back and is not taken, and the other ports are taken in their turn (the model's choice,
log entry 26). -/
def Obligations.ArbiterTakesPortsInTurn : Prop :=
  ∀ s : State,
    (s.arbiterChoice = none ↔ ∀ p, s.waitsAtArbiter p = false) ∧
    (∀ p, s.arbiterChoice = some p ↔ s.waitsAtArbiter p = true ∧
      ∀ q, turnsAfter s.adm.lastServed q < turnsAfter s.adm.lastServed p → s.waitsAtArbiter q = false) ∧
    (∀ p, s.waitsAtArbiter p = true ↔ ∃ c ∈ admissionCommands p, ∃ body, s.headBody p c.1 = some body ∧
      ¬ (c.1 = .subscribe ∧ ∃ d, s.plan.discard = some d ∧ byteAt body 0 = d.index.val)) ∧
    ∀ p, ∀ c ∈ admissionCommands p,
      (s.arbiterChoice ≠ some p → exec c.2 s = .next s) ∧
      (∀ body, s.granted p c.1 = some body → ∃ t, exec c.2 s = .next t ∧ t.adm.lastServed = p) ∧
      (∀ body d, c.1 = .subscribe → s.headBody p .subscribe = some body → s.plan.discard = some d →
        byteAt body 0 = d.index.val → exec c.2 s = .next s)

/-- The admission controller's tables once a port has been served (R122). -/
def served (s : State) (p : Port) : Admission := { s.adm with lastServed := p }

/-- The state after an admission request is refused: the answer, the turn at the arbiter, and nothing else. -/
def turnedAway (s : State) (p : Port) (status : Status) (fields : List Byte) : State :=
  { s with adm := served s p, ports := s.answered p status fields }

/-- The first derived state of a subscription on a lane, by the admission controller's copy of the lane's state
(R119, R129). -/
def firstState : LaneKind → SubState
  | .free => .pending
  | .acquire => .pending
  | .locked => .live
  | .coast => .live
  | .holdoff => .noSignal

/-- The record of a new subscription (R115). -/
def created (b : SubscribeBody) (l : LaneId) (charge : Nat) (state : SubState) : Sub :=
  { channel := b.index, lane := l, mode := b.mode, pids := b.pids, charge := charge, overload := false,
    liveMark := decide (state = .live), reported := state, continuity := 0, firstAfter := decide (state = .live),
    delivered := 0, marked := 0, errorDropped := 0, overflowDropped := 0 }

/-- The admission controller's tables after a subscription is created on a lane (R129). -/
def enrolled (s : State) (p : Port) (i : SubId) (u : Sub) (lane : AdmLane) : Admission :=
  { lanes := Tab.put s.adm.lanes u.lane lane
    ports := s.adm.ports.put p { s.admPort p with
      committed := (s.admPort p).committed + u.charge, subs := Tab.put (s.admPort p).subs i (some u) }
    lastServed := p }

/-- A lane that is assigned a channel (R63); the answers to what it asked before concern it no more (log entry 21). -/
def assigned (x : PlanIndex) (before : Lane) : Lane :=
  { state := .acquire .wait, channel := some x, memo := none, lookupPending := true, restartsPending := 0,
    staleAnswers := unansweredBy before, attempts := 0, params := Params.absent, tuned := none, unsettled := none,
    lingerStart := none, stageTimer := none, recheckTimer := none, readPending := false, coastTimer := none,
    retryTimer := none, packets := 0, correctedPackets := 0, correctedBytes := 0, uncorrectable := 0,
    windowPackets := 0, windowUncorrectable := 0, windowsDone := [] }

/-- The fields of the OK answer to a SUBSCRIBE (R129, R201). -/
def admittedFields (i : SubId) (l : LaneId) (charge : Nat) (rate : Option Nat) (window : Nat) (pids : List Nat) :
    List Byte :=
  enc8 i.val ++ (enc8 l.val ++ (enc16 charge ++ (enc8 (if rate.isSome then 1 else 0) ++ (enc32 window ++ encPids pids))))

/-- The rate that a memo tagged with a channel holds, or none where no memo is (R128). -/
def MemoRate (s : State) (x : PlanIndex) (rate : Option Nat) : Prop :=
  (∀ m, (s.memo m).tag = some x → (s.memo m).fields.streamRate = rate) ∧
    ((∀ m, (s.memo m).tag ≠ some x) → rate = none)

/-- What a SUBSCRIBE that passes its first three checks has found (R124, R125): the body, the channel's entry, and the
lowest id free. -/
structure Eligible (s : State) (p : Port) (body : List Byte) (b : SubscribeBody) (e : PlanEntry) (i : SubId) : Prop where
  asks : s.AsksAdmission p .subscribe body
  reads : SubscribeBody.read body = some b
  entry : s.entry b.index = some e
  fresh : ∀ j u, s.sub p j = some u → u.channel ≠ b.index
  free : s.sub p i = none
  lowest : ∀ j, j < i → s.sub p j ≠ none

/-- SUBSCRIBE without a move (R127 to R129), where the charge fits: a lane that holds the channel is shared, its linger
ended and the rest of its record kept; otherwise the lowest-numbered FREE lane is assigned and sends its lookup; with no
lane FREE the longest lingering lane, the lower-numbered of equals, is released and assigned. Record, committed load,
share count, charging rate, answer and notice are as R115, R128 and R129 give them, and the front end as R35 and R36 do.
That the lane's reports not yet taken are dropped, and that FREE is read from the lane itself, is the model's reading (log
entry 10). -/
def Obligations.SubscribeJoinsOrTakesALane : Prop :=
  ∀ (p : Port) (body : List Byte) (b : SubscribeBody) (e : PlanEntry) (i : SubId) (l : LaneId) (s : State),
    Eligible s p body b e i → fits s.fe.window e = true →
    ((s.lane l).state ≠ .free → (s.lane l).channel = some b.index →
      (∀ k, (s.lane k).state ≠ .free → (s.lane k).channel = some b.index → k = l) →
      let charge := linkLoad ((s.admLane l).rate.getD (provisionalRate e.bandwidth))
      let state := firstState (s.admLane l).seen
      (s.admPort p).committed + charge ≤ (s.admPort p).capacity →
      exec (.subscribe p) s = .next { s with
        lanes := Tab.put s.lanes l { s.lane l with lingerStart := none }
        fe := steered s .active
        adm := enrolled s p i (created b l charge state) { s.admLane l with share := (s.admLane l).share + 1 }
        ports := s.ports.put p ((s.port p).answeredNoticed .ok
          (admittedFields i l charge (s.admLane l).rate s.fe.window b.pids) (.streamState i (some (state, l, charge)))) }) ∧
    ((∀ k, (s.lane k).state ≠ .free → (s.lane k).channel ≠ some b.index) → ∀ rate, MemoRate s b.index rate →
      let charge := linkLoad (rate.getD (provisionalRate e.bandwidth))
      (s.admPort p).committed + charge ≤ (s.admPort p).capacity →
      let after : State := { s with
        lanes := Tab.put s.lanes l (assigned b.index (s.lane l))
        fe := steered s .active
        adm := enrolled s p i (created b l charge .pending)
          { channel := some b.index, share := 1, rate := rate, seen := .acquire }
        ports := s.ports.put p ((s.port p).answeredNoticed .ok
          (admittedFields i l charge rate s.fe.window b.pids) (.streamState i (some (.pending, l, charge)))) }
      let reports := s.mail.toAdm.filter (fun m => m.lane ≠ l) ++ [AdmMsg.state l .acquire]
      ((s.lane l).state = .free → (∀ k, k < l → (s.lane k).state ≠ .free) →
        exec (.subscribe p) s = .next { after with mail := { s.mail with
          toAdm := reports
          toStore := Tab.put s.mail.toStore l (s.mail.toStore.get l ++ [StoreMsg.lookup b.index]) } }) ∧
      ((∀ k, (s.lane k).state ≠ .free) → (s.admLane l).share = 0 →
        (∀ k, (s.admLane k).share = 0 → k ≠ l →
          s.lingerAge k < s.lingerAge l ∨ (s.lingerAge k = s.lingerAge l ∧ l < k)) →
        ∀ x, (s.lane l).channel = some x →
        exec (.subscribe p) s = .next { after with mail := { s.mail with
          toAdm := reports
          toStore := Tab.put s.mail.toStore l
            (s.mail.toStore.get l ++ [StoreMsg.release x, StoreMsg.lookup b.index]) } }))

/-- A move that a SUBSCRIBE may make (R45, R126): not during a retune; and free, with no lane shared, or allowed by the
flag once the minimum move interval has passed since the last move. -/
def MoveAllowed (s : State) (flagged : Bool) : Prop :=
  s.fe.state ≠ .retuning ∧ ((∀ l, (s.admLane l).share = 0) ∨ (flagged = true ∧
    ∀ t0, s.fe.lastMove = some t0 → s.plan.settings.moveInterval ≤ (s.now - t0).toNat))

/-- The refusals of SUBSCRIBE, each after the ones above it have passed (R124 to R128): RANGE; NO_CHANNEL; DUPLICATE with
the id; LIMIT; WINDOW, MOVE_NEEDED with the position, MOVE_TOO_SOON with the wait, absent during a retune; NO_LANE; and
CAPACITY with charge, committed load and capacity, the last two with a pending move too, which is then not made. A refused
SUBSCRIBE changes nothing but the answer and the turn. The body is plan index, allow-move, set where it is not 0, error
mode (MARK 0, DROP 1) and the list, whose count is byte 3 (R198, R200). -/
def Obligations.SubscribeRefusalsComeInOrder : Prop :=
  (∀ (index flag mode : Byte) (rest : List Byte) (b : SubscribeBody),
    SubscribeBody.read (index :: flag :: mode :: rest) = some b ↔
      b.index.val = index.toNat ∧ b.allowMove = decide (flag ≠ 0) ∧
        [ErrorMode.mark, .drop][mode.toNat]? = some b.mode ∧
        readPids (index :: flag :: mode :: rest) 3 = some b.pids) ∧
  ∀ (p : Port) (body : List Byte) (s : State), s.AsksAdmission p .subscribe body →
    (95 < byteAt body 0 ∨ 1 < byteAt body 2 ∨ 16 < byteAt body 3 ∨ (∃ x ∈ pidsAt body 4 (byteAt body 3), 8191 < x) →
      exec (.subscribe p) s = .next (turnedAway s p .range [])) ∧
    ∀ b, SubscribeBody.read body = some b →
      (s.entry b.index = none → exec (.subscribe p) s = .next (turnedAway s p .noChannel [])) ∧
      (∀ i, s.entry b.index ≠ none → (s.sub p i).map Sub.channel = some b.index →
        (∀ j, j < i → (s.sub p j).map Sub.channel ≠ some b.index) →
        exec (.subscribe p) s = .next (turnedAway s p .duplicate [BitVec.ofNat 8 i.val])) ∧
      (s.entry b.index ≠ none → (∀ i, s.sub p i ≠ none) → (∀ i, (s.sub p i).map Sub.channel ≠ some b.index) →
        exec (.subscribe p) s = .next (turnedAway s p .limit [])) ∧
      ∀ e i, Eligible s p body b e i →
        (fits s.fe.window e = false →
          (placement e s.sharedEntries = none → exec (.subscribe p) s = .next (turnedAway s p .window [])) ∧
          ∀ position, placement e s.sharedEntries = some position →
            (b.allowMove = false → (∃ l, 0 < (s.admLane l).share) →
              exec (.subscribe p) s = .next (turnedAway s p .moveNeeded (enc32 position))) ∧
            (b.allowMove = true ∨ (∀ l, (s.admLane l).share = 0) → s.fe.state = .retuning →
              exec (.subscribe p) s = .next (turnedAway s p .moveTooSoon [0xFF, 0xFF, 0xFF, 0xFF])) ∧
            (∀ t0, b.allowMove = true → (∃ l, 0 < (s.admLane l).share) → s.fe.state ≠ .retuning →
              s.fe.lastMove = some t0 → (s.now - t0).toNat < s.plan.settings.moveInterval →
              exec (.subscribe p) s = .next (turnedAway s p .moveTooSoon
                (enc32 (s.plan.settings.moveInterval - (s.now - t0).toNat)))) ∧
            (MoveAllowed s b.allowMove → (∀ k, (s.lane k).state ≠ .free → (s.lane k).channel ≠ some b.index) →
              ((∀ l, (s.lane l).state ≠ .free ∧ 0 < (s.admLane l).share) →
                exec (.subscribe p) s = .next (turnedAway s p .noLane [])) ∧
              ∀ rate, (∃ l, (s.lane l).state = .free ∨ (s.admLane l).share = 0) → MemoRate s b.index rate →
                let charge := linkLoad (rate.getD (provisionalRate e.bandwidth))
                (s.admPort p).capacity < (s.admPort p).committed + charge →
                exec (.subscribe p) s = .next (turnedAway s p .capacity
                  (enc16 charge ++ (enc32 (s.admPort p).committed ++ enc32 (s.admPort p).capacity))))) ∧
        (fits s.fe.window e = true →
          ((∀ l, (s.lane l).state ≠ .free ∧ 0 < (s.admLane l).share ∧ (s.lane l).channel ≠ some b.index) →
            exec (.subscribe p) s = .next (turnedAway s p .noLane [])) ∧
          (∀ l, (s.lane l).state ≠ .free → (s.lane l).channel = some b.index →
            (∀ k, (s.lane k).state ≠ .free → (s.lane k).channel = some b.index → k = l) →
            let charge := linkLoad ((s.admLane l).rate.getD (provisionalRate e.bandwidth))
            (s.admPort p).capacity < (s.admPort p).committed + charge →
            exec (.subscribe p) s = .next (turnedAway s p .capacity
              (enc16 charge ++ (enc32 (s.admPort p).committed ++ enc32 (s.admPort p).capacity)))) ∧
          (∀ rate, (∀ k, (s.lane k).state ≠ .free → (s.lane k).channel ≠ some b.index) →
            (∃ l, (s.lane l).state = .free ∨ (s.admLane l).share = 0) → MemoRate s b.index rate →
            let charge := linkLoad (rate.getD (provisionalRate e.bandwidth))
            (s.admPort p).capacity < (s.admPort p).committed + charge →
            exec (.subscribe p) s = .next (turnedAway s p .capacity
              (enc16 charge ++ (enc32 (s.admPort p).committed ++ enc32 (s.admPort p).capacity)))))

/-- The lanes a move of the window releases: lingering ones whose channel does not fit (R42). -/
def leaves (s : State) (position : Nat) (l : LaneId) : Bool :=
  decide ((s.lane l).state ≠ .free) && decide ((s.admLane l).share = 0) && !s.laneFits position l

/-- The lanes that restart at a move: those not FREE and not released, where the front end was ACTIVE (R43, R87). -/
def restarts (s : State) (position : Nat) (l : LaneId) : Bool :=
  decide (s.fe.state = .active) && decide ((s.lane l).state ≠ .free) && !leaves s position l

/-- What a lane tells the store at a move: its release, or what it asks at its restart (R85, R100, R101). -/
def moveTells (s : State) (position : Nat) (l : LaneId) : List StoreMsg :=
  if leaves s position l = true then releaseNotice (s.lane l)
  else if restarts s position l = true then restartAsked (s.lane l) else []

/-- What a move of the window makes of the front end and of some lanes (R42, R43, R87): W and the last-move stamp; where
the front end was ACTIVE a retune of 40 ms, its active-since stamp kept, and otherwise the moves toward the target (R35,
R36); a lingering lane that does not fit is FREE, and where a retune starts every other lane that is not FREE restarts. -/
def MovedTo (s t : State) (position : Nat) (others : LaneId → Prop) : Prop :=
  t.fe = (if s.fe.state = .active then
      { s.fe with
        window := position, lastMove := some s.now, state := .retuning, retuneEnd := some (s.now + 40#32) }
    else { steered s t.target with window := position, lastMove := some s.now }) ∧
  ∀ l, others l →
    t.lane l = (if leaves s position l = true then freed (s.lane l)
      else if restarts s position l = true then restarted (s.lane l) else s.lane l) ∧
    t.admLane l = if leaves s position l = true then { channel := none, share := 0, rate := none, seen := .free }
      else s.admLane l

/-- What a move of the window reports to the admission controller (R61, R83, R87): the reports of the lanes it releases
are dropped (log entry 10), and each lane that restarts and was not in ACQUIRE reports its return, in ascending lane
number (log entry 29). -/
def moveReports (s : State) (position : Nat) : List AdmMsg :=
  s.mail.toAdm.filter (fun m => !leaves s position m.lane) ++
    (allLanes.filter (fun l => restarts s position l && decide ((s.lane l).state.kind ≠ .acquire))).map
      (fun l => AdmMsg.state l .acquire)

/-- The front end's state as the WINDOW notice of a move shows it (R49). -/
def movedState (s : State) : FrontEndState := if s.fe.state = .active then .retuning else s.fe.state

/-- SUBSCRIBE with a move (R126, R129): with the placement found and the move allowed, the window moves to it, lanes,
front end and messages as R42 and R43 give them; the lowest-numbered lane that is FREE or that the move releases is
assigned, and where there is none the longest lingering lane, the lower-numbered of equals, is released and assigned; the
requesting port is answered with the new W and holds the notices of the move and of its stream, every other ATTACHED port
is given the notice of the move. The model's readings in it: the notice shows the state before the same command wakes the
front end (log entry 19), every restart asks the store and waits for its answer (log entry 11), the lanes released in the
event are recorded FREE in it and their reports dropped (log entry 10). -/
def Obligations.SubscribeMovesTheWindow : Prop :=
  ∀ (p : Port) (body : List Byte) (b : SubscribeBody) (e : PlanEntry) (i : SubId) (l : LaneId) (position : Nat)
    (rate : Option Nat) (s : State), Eligible s p body b e i → fits s.fe.window e = false →
    placement e s.sharedEntries = some position → MoveAllowed s b.allowMove →
    (∀ k, (s.lane k).state ≠ .free → (s.lane k).channel ≠ some b.index) →
    let countsFree := fun k : LaneId => (s.lane k).state = .free ∨ leaves s position k = true
    (countsFree l ∧ ∀ k, k < l → ¬ countsFree k) ∨
      ((∀ k, ¬ countsFree k) ∧ (s.admLane l).share = 0 ∧ (s.lane l).channel.isSome ∧
        ∀ k, (s.admLane k).share = 0 → k ≠ l →
          s.lingerAge k < s.lingerAge l ∨ (s.lingerAge k = s.lingerAge l ∧ l < k)) →
    MemoRate s b.index rate →
    let charge := linkLoad (rate.getD (provisionalRate e.bandwidth))
    (s.admPort p).committed + charge ≤ (s.admPort p).capacity →
    let reclaimed := decide ((s.lane l).state ≠ .free) && !leaves s position l
    ∃ t, exec (.subscribe p) s = .next t ∧ MovedTo s t position (fun k => k ≠ l) ∧
      t.lane l = assigned b.index (if restarts s position l = true then restarted (s.lane l) else s.lane l) ∧
      t.admLane l = { channel := some b.index, share := 1, rate := rate, seen := .acquire } ∧
      t.adm.ports = (enrolled s p i (created b l charge .pending) (s.admLane l)).ports ∧ t.adm.lastServed = p ∧
      t.port p = { (s.port p).answered .ok (admittedFields i l charge rate position b.pids) with
        notices := enqueueNotice (.streamState i (some (.pending, l, charge)))
          (enqueueNotice (.window position (movedState s) .move) (s.port p).notices) } ∧
      (∀ q, q ≠ p → t.port q = (s.port q).noticed (.window position (movedState s) .move)) ∧
      t.mail = { s.mail with
        toAdm := (moveReports s position).filter (fun m => m.lane ≠ l) ++ [AdmMsg.state l .acquire]
        toStore := t.mail.toStore } ∧
      (∀ k, k ≠ l → t.mail.toStore.get k = s.mail.toStore.get k ++ moveTells s position k) ∧
      t.mail.toStore.get l = s.mail.toStore.get l ++ (moveTells s position l ++
        ((if reclaimed = true then releaseNotice (s.lane l) else []) ++ [StoreMsg.lookup b.index])) ∧
      t = { s with fe := t.fe, lanes := t.lanes, adm := t.adm, ports := t.ports, mail := t.mail }

/-- WINDOW_SET (R46, R49): the edge, four bytes (R197, R200), is made a position; a move to W changes nothing and is answered OK; then WINDOW with
the lowest-numbered shared lane that does not fit, MOVE_TOO_SOON with the wait, absent during a retune; and a move, as
R42 and R43 give it, answered with the position and the number of lanes released. The model's readings in it: an edge not
given is read as a number (log entry 33), an idle downlink sends the answer before the notice (log entry 12), every
restart asks the store and waits for its answer (log entry 11), the reports of a released lane are dropped (log entry 10),
and the notice shows the state right after the move (log entry 19). -/
def Obligations.WindowSetRefusesOrMoves : Prop :=
  (∀ e3 e2 e1 e0 : Byte, word32At [e3, e2, e1, e0] 0 = numberOf [e3, e2, e1, e0]) ∧
  ∀ (p : Port) (body : List Byte) (s : State), s.AsksAdmission p .windowSet body →
    let position := roundWindow (word32At body 0)
    (position = s.fe.window →
      exec (.windowSet p) s = .next (turnedAway s p .ok (enc32 s.fe.window ++ [0, 0]))) ∧
    (position ≠ s.fe.window →
      (∀ l, 0 < (s.admLane l).share → s.laneFits position l = false →
        (∀ k, k < l → (s.admLane k).share = 0 ∨ s.laneFits position k = true) →
        exec (.windowSet p) s = .next (turnedAway s p .window [BitVec.ofNat 8 l.val])) ∧
      ((∀ l, 0 < (s.admLane l).share → s.laneFits position l = true) →
        (s.fe.state = .retuning →
          exec (.windowSet p) s = .next (turnedAway s p .moveTooSoon [0xFF, 0xFF, 0xFF, 0xFF])) ∧
        (∀ l t0, s.fe.state ≠ .retuning → 0 < (s.admLane l).share → s.fe.lastMove = some t0 →
          (s.now - t0).toNat < s.plan.settings.moveInterval →
          exec (.windowSet p) s = .next (turnedAway s p .moveTooSoon
            (enc32 (s.plan.settings.moveInterval - (s.now - t0).toNat)))) ∧
        (s.fe.state ≠ .retuning →
          ((∀ l, (s.admLane l).share = 0) ∨
            ∀ t0, s.fe.lastMove = some t0 → s.plan.settings.moveInterval ≤ (s.now - t0).toNat) →
          ∃ t, exec (.windowSet p) s = .next t ∧ MovedTo s t position (fun _ => True) ∧
            t.adm.ports = s.adm.ports ∧ t.adm.lastServed = p ∧
            t.port p = (s.port p).answeredNoticed .ok
              (enc32 position ++ [1, BitVec.ofNat 8 (allLanes.filter (leaves s position)).length])
              (.window position (movedState s) .move) ∧
            (∀ q, q ≠ p → t.port q = (s.port q).noticed (.window position (movedState s) .move)) ∧
            t.mail = { s.mail with toAdm := moveReports s position, toStore := t.mail.toStore } ∧
            (∀ l, t.mail.toStore.get l = s.mail.toStore.get l ++ moveTells s position l) ∧
            t = { s with fe := t.fe, lanes := t.lanes, adm := t.adm, ports := t.ports, mail := t.mail })))

/-- What a fall of a lane's share count makes of the lane (R84): at 0 it lingers from now, or is FREE where the linger
time is 0. -/
def afterFall (s : State) (l : LaneId) (fall : Nat) : Lane :=
  if fall = 0 ∨ fall < (s.admLane l).share then s.lane l
  else if s.plan.settings.linger = 0 then freed (s.lane l)
  else { s.lane l with lingerStart := some s.now }

/-- What the removal of every subscription of a port reports to the admission controller (R85): each lane released at its
fall, in the ids' order. -/
def removalReports (s : State) (p : Port) : List AdmMsg :=
  allIds.filterMap (fun i => match s.sub p i with
    | none => none
    | some u => if (s.admLane u.lane).share ≤ 1 ∧ s.plan.settings.linger = 0 then some (.toFree u.lane) else none)

/-- The lane's release at a fall of its share count to 0 where the linger time is 0 (R84). -/
def leavesAtFall (s : State) (l : LaneId) (fall : Nat) : Bool :=
  decide (fall ≠ 0 ∧ (s.admLane l).share ≤ fall ∧ s.plan.settings.linger = 0)

/-- What a lane tells the store at a fall of its share count: its release, where it is released (R84, R85, R100). -/
def fallTells (s : State) (l : LaneId) (fall : Nat) : List StoreMsg :=
  if leavesAtFall s l fall = true then releaseNotice (s.lane l) else []

/-- The derived state of a subscription on a lane that is not FREE: the first row of R119 that applies. -/
def rowFor (link : LinkState) (overload liveMark : Bool) (lane : LaneKind) : SubState :=
  if link = .holding then .held
  else if overload = true then .overload
  else if lane = .acquire then (if liveMark = true then .interrupted else .pending)
  else if lane = .holdoff then .noSignal
  else .live

/-- A record whose state is derived again (R120). -/
def reportedAs (u : Sub) (d : SubState) : Sub :=
  { u with
    reported := d
    liveMark := u.liveMark || (decide (d ≠ u.reported) && decide (d = .live))
    firstAfter := u.firstAfter || (decide (d ≠ u.reported) && decide (d = .live)) }

/-- The ids that re-admission lets in (R135): in ascending order, each OVERLOAD subscription whose stored charge still
fits beside what the port is committed to by then. -/
def letIn (capacity : Nat) (subs : SubId → Option Sub) : Nat → List SubId → List SubId
  | _, [] => []
  | committed, i :: rest =>
    match subs i with
    | none => letIn capacity subs committed rest
    | some u =>
      if u.overload = true ∧ committed + u.charge ≤ capacity then
        i :: letIn capacity subs (committed + u.charge) rest
      else letIn capacity subs committed rest

/-- The sum of the charges of some ids. -/
def chargesOf (subs : SubId → Option Sub) (ids : List SubId) : Nat :=
  (ids.map (fun i => match subs i with
    | none => 0
    | some u => u.charge)).sum

/-- The state that a subscription let in by re-admission derives (R119, R135). -/
def backState (s : State) (p : Port) (u : Sub) : SubState :=
  rowFor (s.port p).link false u.liveMark (s.admLane u.lane).seen

/-- A port's subscriptions after re-admission has let some ids in (R135). -/
def letBack (s : State) (p : Port) (subs : SubId → Option Sub) (ids : List SubId) (i : SubId) : Option Sub :=
  if i ∈ ids then (subs i).map (fun u => reportedAs { u with overload := false } (backState s p u)) else subs i

/-- The notices that re-admission raises, one for each id let in whose state changes (R120, R135). -/
def backNotices (s : State) (p : Port) (subs : SubId → Option Sub) (ids : List SubId) : List Notice :=
  ids.filterMap (fun i => match subs i with
    | none => none
    | some u =>
      if backState s p u = u.reported then none else some (.streamState i (some (backState s p u, u.lane, u.charge))))

/-- UNSUBSCRIBE (R131, R84, R121, R135): RANGE above 5, NO_SUCH for an id not in use; otherwise the record is gone, its
charge off the committed load unless it was OVERLOAD, the lane's share count lower by 1 and the lane as R84 gives it, the
answer carries the four counters, and the notice of the removal waits; where the charge came off, re-admission then lets
in what fits, with its notices; and the front end moves toward the target that is left (R35, R36, R38). That an idle
downlink sends the answer before the notices is the model's choice (log entry 12). -/
def Obligations.UnsubscribeRemovesTheSubscription : Prop :=
  ∀ (p : Port) (body : List Byte) (s : State), s.AsksAdmission p .unsubscribe body →
    (5 < byteAt body 0 → exec (.unsubscribe p) s = .next (turnedAway s p .range [])) ∧
    ∀ i : SubId, byteAt body 0 = i.val →
      (s.sub p i = none → exec (.unsubscribe p) s = .next (turnedAway s p .noSuch [])) ∧
      ∀ u, s.sub p i = some u → (∀ j v, s.sub p j = some v → (s.admLane v.lane).seen ≠ .free) →
        let base := if u.overload = true then (s.admPort p).committed else (s.admPort p).committed - u.charge
        let subs := fun j => if j = i then none else s.sub p j
        let ids := if u.overload = true then [] else letIn (s.admPort p).capacity subs base [0, 1, 2, 3, 4, 5]
        ∃ t, exec (.unsubscribe p) s = .next t ∧
          t.adm.lanes = Tab.put s.adm.lanes u.lane { s.admLane u.lane with share := (s.admLane u.lane).share - 1 } ∧
          t.adm.lastServed = p ∧ (∀ q, q ≠ p → t.admPort q = s.admPort q) ∧
          t.admPort p = { s.admPort p with committed := base + chargesOf subs ids, subs := (t.admPort p).subs } ∧
          (∀ j, t.sub p j = letBack s p subs ids j) ∧
          (∀ l, t.lane l = if l = u.lane then afterFall s l 1 else s.lane l) ∧
          (∀ q, q ≠ p → t.port q = s.port q) ∧
          t.port p = (backNotices s p subs ids).foldl (fun r n => { r with notices := enqueueNotice n r.notices })
            ((s.port p).answeredNoticed .ok
              (enc32 u.delivered ++ (enc32 u.marked ++ (enc32 u.errorDropped ++ enc32 u.overflowDropped)))
              (.streamState i none)) ∧
          t.fe = steered s t.target ∧
          (∀ l, t.mail.toStore.get l = s.mail.toStore.get l ++ if l = u.lane then fallTells s l 1 else []) ∧
          t = { s with
            fe := t.fe, lanes := t.lanes, adm := t.adm, ports := t.ports
            mail := { s.mail with
              toStore := t.mail.toStore
              toAdm := s.mail.toAdm ++ if leavesAtFall s u.lane 1 = true then [AdmMsg.toFree u.lane] else [] } }

/-- FILTER_SET (R116, R132): a list is its count and that many PIDs of two bytes each (R197, R200); it fails on a count above 16 or a PID above 8191 and is otherwise stored ascending,
without repeats and without 8191; RANGE for an id above 5 or a list that fails, NO_SUCH for an id not in use; an accepted
list replaces the stored one and is answered, and nothing else of the record changes. -/
def Obligations.FilterSetStoresTheList : Prop :=
  (∀ (start : List Byte) (pids : List (Byte × Byte)) (rest : List Byte),
    pidsAt (start ++ (pids.flatMap (fun x => [x.1, x.2]) ++ rest)) start.length pids.length =
      pids.map (fun x => numberOf [x.1, x.2])) ∧
  (∀ (body : List Byte) (place : Nat),
    (readPids body place = none ↔
      16 < byteAt body place ∨ ∃ x ∈ pidsAt body (place + 1) (byteAt body place), 8191 < x) ∧
    ∀ pids, readPids body place = some pids →
      pids.Pairwise (fun x y => x < y) ∧
        ∀ x, x ∈ pids ↔ x ∈ pidsAt body (place + 1) (byteAt body place) ∧ x ≠ 8191) ∧
  ∀ (p : Port) (body : List Byte) (s : State), s.AsksAdmission p .filterSet body →
    (5 < byteAt body 0 ∨ readPids body 1 = none →
      exec (.filterSet p) s = .next (turnedAway s p .range [])) ∧
    ∀ (i : SubId) (pids : List Nat), byteAt body 0 = i.val → readPids body 1 = some pids →
      (s.sub p i = none → exec (.filterSet p) s = .next (turnedAway s p .noSuch [])) ∧
      ∀ u, s.sub p i = some u →
        exec (.filterSet p) s = .next { s with
          adm := { s.adm with
            ports := s.adm.ports.put p { s.admPort p with subs := Tab.put (s.admPort p).subs i (some { u with pids := pids }) }
            lastServed := p }
          ports := s.answered p .ok (encPids pids) }

/-- How many of some queue entries name a slot. -/
def naming (i : SlotId) (entries : List Entry) : Nat := (entries.filter (fun e => decide (e.slot = i))).length

/-- A slot after entries that name it are removed (R143, R144): its count falls by their number and at 0 it is free. -/
def unnamed (n : Nat) : Option Slot → Option Slot
  | none => none
  | some x => if n = 0 then some x else if n < x.refs then some { x with refs := x.refs - n } else none

/-- A saturating counter (spec 0.2) after some more counts; none leaves it as it is. -/
def counted (x n : Nat) : Nat := if n = 0 then x else min (x + n) 4294967295

/-- No port holds two subscriptions on one lane (R117, Law 2). -/
def OneSubPerPort (s : State) (l : LaneId) : Prop :=
  ∀ p i j u v, s.sub p i = some u → s.sub p j = some v → u.lane = l → v.lane = l → i = j

/-- The settings of a port (R138, R139, R146 to R148, R159, R179). PORT_SETUP: CAPACITY with the committed load for a
given capacity that is below it, then QUOTA where the four would exceed 128, and otherwise every given field together: a
queue longer than the quota is cut from its tail, slots and overflow counters with it, and where the capacity rose
re-admission lets in what fits (R135). PORT_RESET: every subscription of the port removed with its notice,
charges and share counts lowered, the unsent entries of the queue removed, the defaults restored, and the number removed
answered. After either the front end moves toward a changed target (R35, R36, R38). The body of PORT_SETUP is capacity,
quota and standby level, in 4, 1 and 1 bytes; a field of bytes FFh is absent, and so is a standby code that names neither
level (R138, R197, R200). The model's choices in it: an idle downlink sends the answer before the notices (log entry 12), a
cut entry counts on the subscription that has its port and id now, be it a newer one (log entry 37), and the number of
discarded entries reads 0 where none was cut (log entry 41). The model's reading: the entry in transmission that
PORT_RESET keeps may be one that a send-complete just before it let the arbiter choose (log entry 46). -/
def Obligations.PortSetupAndResetSetThePort : Prop :=
  (∀ c3 c2 c1 c0 quota standby : Byte,
    PortSetupBody.read [c3, c2, c1, c0, quota, standby] =
      { capacity := givenIn [c3, c2, c1, c0], quota := givenIn [quota]
        standby := [StandbyLevel.idle, .off][standby.toNat]? }) ∧
  (∀ (p : Port) (body : List Byte) (s : State), s.AsksAdmission p .portSetup body →
    let b := PortSetupBody.read body
    let a := s.admPort p
    let capacity := match b.capacity with
      | none => a.capacity
      | some n => roundCapacity n
    let quota := match b.quota with
      | none => s.quota p
      | some n => clampQuota n
    (b.capacity ≠ none → capacity < a.committed →
      exec (.portSetup p) s = .next (turnedAway s p .capacity (enc32 a.committed))) ∧
    (b.capacity = none ∨ a.committed ≤ capacity →
      (b.quota ≠ none → 128 < s.quotaSum - s.quota p + quota →
        exec (.portSetup p) s = .next (turnedAway s p .quota [])) ∧
      (b.quota = none ∨ s.quotaSum - s.quota p + quota ≤ 128 → (s.queue p).length ≤ s.quota p →
        (∀ i u, s.sub p i = some u → (s.admLane u.lane).seen ≠ .free) →
        let standby := b.standby.getD a.standby
        let cut := (s.queue p).drop quota
        let subs := fun q i => (s.sub q i).map (fun u => { u with
          overflowDropped := counted u.overflowDropped (cut.filter (fun e => decide (e.port = q ∧ e.id = i))).length })
        let ids := if a.capacity < capacity then letIn capacity (subs p) a.committed [0, 1, 2, 3, 4, 5] else []
        let committed := a.committed + chargesOf (subs p) ids
        ∃ t, exec (.portSetup p) s = .next t ∧ t.queue p = (s.queue p).take quota ∧ t.quota p = quota ∧
          (t.admPort p).capacity = capacity ∧ (t.admPort p).standby = standby ∧
          (t.admPort p).committed = committed ∧
          (∀ q, q ≠ p → t.queue q = s.queue q ∧ t.quota q = s.quota q ∧ (t.admPort q).capacity = (s.admPort q).capacity ∧
            (t.admPort q).committed = (s.admPort q).committed ∧ (t.admPort q).standby = (s.admPort q).standby) ∧
          (∀ i, t.slot i = unnamed (naming i cut) (s.slot i)) ∧
          (∀ i, t.sub p i = letBack s p (subs p) ids i) ∧ (∀ q i, q ≠ p → t.sub q i = subs q i) ∧
          (∀ q, q ≠ p → t.port q = s.port q) ∧
          t.port p = (backNotices s p (subs p) ids).foldl (fun r n => { r with notices := enqueueNotice n r.notices })
            ((s.port p).answered .ok (enc32 capacity ++ (enc8 quota ++ (enc8 standby.code ++
              (enc32 committed ++ enc8 cut.length))))) ∧
          t.adm.lanes = s.adm.lanes ∧ t.adm.lastServed = p ∧ t.fe = steered s t.target ∧
          t = { s with fe := t.fe, adm := t.adm, pool := t.pool, ports := t.ports }))) ∧
  ∀ (p : Port) (body : List Byte) (s : State), s.AsksAdmission p .portReset body →
    let removed := allIds.filter (fun i => (s.sub p i).isSome)
    let kept := if (s.port p).downlink = .packet then (s.queue p).take 1 else []
    let gone := if (s.port p).downlink = .packet then (s.queue p).tail else s.queue p
    let fall := fun l => (allIds.filter (fun i => decide ((s.sub p i).map Sub.lane = some l))).length
    ∃ t, exec (.portReset p) s = .next t ∧ (∀ i, t.sub p i = none) ∧
      (t.admPort p).capacity = 100000 ∧ (t.admPort p).standby = .idle ∧
      (t.admPort p).committed = (s.admPort p).committed - s.chargedSum p ∧
      (∀ q, q ≠ p → t.admPort q = s.admPort q ∧ t.queue q = s.queue q ∧ t.quota q = s.quota q ∧ t.port q = s.port q) ∧
      (∀ l, t.admLane l = { s.admLane l with share := (s.admLane l).share - fall l }) ∧
      (∀ l, t.lane l = afterFall s l (fall l)) ∧ t.adm.lastServed = p ∧
      t.queue p = kept ∧ t.quota p = min 32 (128 - (s.quotaSum - s.quota p)) ∧
      (∀ i, t.slot i = unnamed (naming i gone) (s.slot i)) ∧
      t.port p = removed.foldl (fun r i => { r with notices := enqueueNotice (.streamState i none) r.notices })
        ((s.port p).answered .ok [BitVec.ofNat 8 removed.length]) ∧
      t.fe = steered s t.target ∧ (∀ l, t.mail.toStore.get l = s.mail.toStore.get l ++ fallTells s l (fall l)) ∧
      ((∀ l, OneSubPerPort s l) → t.mail.toAdm = s.mail.toAdm ++ removalReports s p) ∧
      t = { s with
        fe := t.fe, lanes := t.lanes, adm := t.adm, pool := t.pool, ports := t.ports
        mail := { s.mail with toStore := t.mail.toStore, toAdm := t.mail.toAdm } }

/-! ## Lane events at the admission controller -/

/-- RATE_REPORT (R134, R120, R135): a rate equal to the charging rate changes nothing; another replaces it and recharges
the lane's subscription of each port: its old charge is off the committed load unless it was OVERLOAD; where the new
charge fits, it is taken and the flag clear, otherwise the flag is set, and RATE_OVERLOAD is reported where it was clear;
a changed charge or flag is notified with the state derived again; where the committed load fell, re-admission lets in
what fits; a port without a subscription on the lane is not touched. -/
def Obligations.RateReportRecharges : Prop :=
  ∀ (l : LaneId) (rate : Option Nat) (rest : List AdmMsg) (s : State), s.Settled → s.mail.toAdm = .rate l rate :: rest →
    (rate = (s.admLane l).rate → exec (.rateReport l) s = .next { s with mail := { s.mail with toAdm := rest } }) ∧
    (rate ≠ (s.admLane l).rate → OneSubPerPort s l →
      (∀ p i u, s.sub p i = some u → (s.admLane u.lane).seen ≠ .free) →
      let chargeOf := fun u : Sub => s.chargeFor u.channel rate
      let off := fun p (u : Sub) =>
        if u.overload = true then (s.admPort p).committed else (s.admPort p).committed - u.charge
      let fit := fun p (u : Sub) => decide (off p u + chargeOf u ≤ (s.admPort p).capacity)
      ∃ t, exec (.rateReport l) s = .next t ∧
        t.adm.lanes = Tab.put s.adm.lanes l { s.admLane l with rate := rate } ∧ t.adm.lastServed = s.adm.lastServed ∧
        (∀ p, (∀ i u, s.sub p i = some u → u.lane ≠ l) → t.admPort p = s.admPort p ∧ t.port p = s.port p) ∧
        (∀ p i u, s.sub p i = some u → u.lane = l →
          let changed := decide (chargeOf u ≠ u.charge ∨ u.overload ≠ !fit p u)
          let d := rowFor (s.port p).link (!fit p u) u.liveMark (s.admLane l).seen
          let recharged : Sub := { u with charge := chargeOf u, overload := !fit p u }
          let subs := fun j => if j = i then some (if changed = true then reportedAs recharged d else u) else s.sub p j
          let base := if fit p u = true then off p u + chargeOf u else off p u
          let ids := if base < (s.admPort p).committed then letIn (s.admPort p).capacity subs base [0, 1, 2, 3, 4, 5]
            else []
          t.admPort p = { s.admPort p with committed := base + chargesOf subs ids, subs := (t.admPort p).subs } ∧
          (∀ j, t.sub p j = letBack s p subs ids j) ∧
          t.port p = ((if changed = true then [Notice.streamState i (some (d, l, chargeOf u))] else []) ++
            backNotices s p subs ids).foldl (fun r n => r.noticed n) (s.port p)) ∧
        t.mail = { s.mail with
          toAdm := rest
          toLog := s.mail.toLog ++ allKeys.filterMap (fun k =>
            match s.sub k.1 k.2 with
            | none => none
            | some u =>
              if u.lane = l ∧ fit k.1 u = false ∧ u.overload = false then
                some { kind := .rateOverload, port := some k.1, lane := some l, plan := some u.channel }
              else none) } ∧
        t = { s with adm := t.adm, ports := t.ports, mail := t.mail }) ∧
    ∀ (x : PlanIndex) (e : PlanEntry), s.entry x = some e → ∀ r : Option Nat,
      s.chargeFor x r = linkLoad (r.getD (provisionalRate e.bandwidth))

/-- Lane state changes at the admission controller (R119, R120, R141): the derived state is the first row that applies;
LANE_STATE_CHANGE updates the copy of the lane's state and derives the states of its subscriptions, a changed one being
stored and notified, and an entry into LIVE setting live mark and first-after flag; CHANGE_TO_FREE drops channel and
charging rate and records the lane as FREE. -/
def Obligations.LaneReportsMoveTheSubscriptions : Prop :=
  (∀ (s : State) (p : Port) (u : Sub), (s.admLane u.lane).seen ≠ .free →
    s.derivedState p u = some (rowFor (s.port p).link u.overload u.liveMark (s.admLane u.lane).seen)) ∧
  (∀ (l : LaneId) (kind : LaneKind) (rest : List AdmMsg) (s : State), s.Settled → kind ≠ .free →
    s.mail.toAdm = .state l kind :: rest → OneSubPerPort s l →
    ∃ t, exec (.laneStateChange l) s = .next t ∧
      t.adm.lanes = Tab.put s.adm.lanes l { s.admLane l with seen := kind } ∧ t.adm.lastServed = s.adm.lastServed ∧
      (∀ p, (∀ i u, s.sub p i = some u → u.lane ≠ l) → t.admPort p = s.admPort p ∧ t.port p = s.port p) ∧
      (∀ p i u, s.sub p i = some u → u.lane = l →
        let d := rowFor (s.port p).link u.overload u.liveMark kind
        t.admPort p = { s.admPort p with subs := Tab.put (s.admPort p).subs i (some (reportedAs u d)) } ∧
        t.port p = if d = u.reported then s.port p
          else (s.port p).noticed (.streamState i (some (d, l, u.charge)))) ∧
      t = { s with adm := t.adm, ports := t.ports, mail := { s.mail with toAdm := rest } }) ∧
  ∀ (l : LaneId) (rest : List AdmMsg) (s : State), s.mail.toAdm = .toFree l :: rest →
    exec (.changeToFree l) s = .next { s with
      adm := { s.adm with
        lanes := Tab.put s.adm.lanes l { channel := none, share := (s.admLane l).share, rate := none, seen := .free } }
      mail := { s.mail with toAdm := rest } }

/-! ## Fault log -/

/-- The ports that R188 names for an occurrence that fills a first record; each discards the notice unless ATTACHED. A
PORT_DETACHED or PORT_EXPIRED below CRITICAL reaches none. -/
def NoticeGoesTo (s : State) (o : Occurrence) (severity : Severity) (p : Port) : Prop :=
  severity = .critical ∨ o.kind ∈ [ErrorKind.poolExhausted, .feClip, .feedFault, .feedLatched, .warmReset] ∨
    (o.kind ∈ [ErrorKind.reqCheck, .reqMalformed, .rateOverload, .queueOverflow] ∧ o.port = some p) ∨
    (o.kind ∈ [ErrorKind.acqFail, .lockLost, .memoMismatch, .memoUnavailable, .cellChanged, .signallingChange,
        .laneUnsettled] ∧ ∃ l i u, o.lane = some l ∧ s.sub p i = some u ∧ u.lane = l)

/-- LOG_OCCURRENCE (R183, R186 to R188): an IGNORE occurrence changes nothing in the log; one that finds its class empty
fills the first record and, from DEGRADED up, raises a LOG notice where R188 sends it; any other is added to the next set
and counted up to 65,535. Where a notice goes is asked when the log takes the occurrence (log entry 36). The alert lines
are asserted while the major class is not empty and while a port's pulse runs (R176, R189). ALERT_PULSE_END (R176): when
the pulse's end has been reached, as log entry 3 reads a time, the pulse is over and nothing else changes. -/
def Obligations.LogTakesOccurrences : Prop :=
  (∀ (place : Nat) (o : Occurrence) (s : State), s.Settled → s.mail.toLog[place]? = some o →
    let severity := s.log.severities.get o.kind.index
    let after : State := { s with mail := { s.mail with toLog := s.mail.toLog.eraseIdx place } }
    (severity = .ignore → exec (.logOccurrence place) s = .next after) ∧
    ∀ n, (n = .minor ∧ (severity = .advisory ∨ severity = .degraded)) ∨
        (n = .major ∧ (severity = .serious ∨ severity = .critical)) →
      ((s.log.cls n).first = none →
        let record : FirstRecord :=
          { kind := o.kind, severity := severity, stamp := s.now, port := o.port, lane := o.lane, plan := o.plan }
        ∃ t, exec (.logOccurrence place) s = .next t ∧
          t.log = s.log.setCls n { first := some record, nextSet := [], count := 1 } ∧
          (∀ p, NoticeGoesTo s o severity p → severity ≠ .advisory → t.port p = (s.port p).noticed (.log n record)) ∧
          (∀ p, ¬ NoticeGoesTo s o severity p ∨ severity = .advisory → t.port p = s.port p) ∧
          t = { after with log := t.log, ports := t.ports }) ∧
      (∀ first, (s.log.cls n).first = some first →
        ∃ next, exec (.logOccurrence place) s = .next { after with
            log := s.log.setCls n { first := some first, nextSet := next, count := min ((s.log.cls n).count + 1) 65535 } } ∧
          ∀ k, k ∈ next ↔ k = o.kind ∨ k ∈ (s.log.cls n).nextSet)) ∧
  ∀ (s : State) (p : Port),
    (s.alertAsserted p = true ↔ s.log.major.first ≠ none ∨ (s.port p).pulseEnd ≠ none) ∧
    ∀ t0, (s.port p).pulseEnd = some t0 → (s.now - t0).toNat < 2147483648 →
      exec (.alertPulseEnd p) s = .next { s with ports := s.ports.put p { s.port p with pulseEnd := none } }

/-- A class in an answer (R201): first record, next set, count, time base. -/
def classFields (c : LogClass) (now : Time) : List Byte :=
  (match c.first with
    | none => List.replicate 9 0xFF
    | some r => bytesOf 1 r.kind.index.val ++ bytesOf 1 r.severity.code ++ bytesOf 4 r.stamp.toNat ++
        field 1 (r.port.map (fun x => x.code)) ++ field 1 (r.lane.map (fun x => x.val)) ++
        field 1 (r.plan.map (fun x => x.val))) ++
    bytesOf 4 ((ErrorKind.all.map (fun k => if k ∈ c.nextSet then 2 ^ k.index.val else 0)).sum) ++ bytesOf 2 c.count ++
    bytesOf 4 now.toNat

/-- The log's requests (R184, R190, R191): SEVERITY_SET is refused RANGE, then LOCKED with the stored severity, and
otherwise stores and answers new and old; LOG_READ answers a class and changes nothing; LOG_CLEAR answers a class as it
stood and empties it; both are refused RANGE for a code that names neither class. A class is answered as its first record,
nine bytes of FFh where it is absent, its next set as a mask of 32 bits, its count and the time base (R198, R201). -/
def Obligations.LogRequestsReadSetAndClear : Prop :=
  (∀ c now, encClass c now = classFields c now) ∧
  (ErrorKind.all.map (fun k => k.index.val) = List.range 18 ∧ ∀ k : ErrorKind, k ∈ ErrorKind.all) ∧
  ∀ (p : Port) (body : List Byte) (s : State),
    (s.Asks p .severitySet body →
      (17 < byteAt body 0 ∨ 4 < byteAt body 1 →
        exec (.severitySet p) s = .next { s with ports := s.answered p .range [] }) ∧
      ∀ (k : ErrorKind) (v : Severity), byteAt body 0 = k.index.val → byteAt body 1 = v.code →
        let old := s.log.severities.get k.index
        (s.plan.lock = true → exec (.severitySet p) s = .next { s with
          ports := s.answered p .locked [BitVec.ofNat 8 k.index.val, BitVec.ofNat 8 old.code] }) ∧
        (s.plan.lock = false → exec (.severitySet p) s = .next { s with
          log := { s.log with severities := Tab.put s.log.severities k.index v }
          ports := s.answered p .ok
            [BitVec.ofNat 8 k.index.val, BitVec.ofNat 8 v.code, BitVec.ofNat 8 old.code] })) ∧
    (s.Asks p .logRead body →
      (1 < byteAt body 0 → exec (.logRead p) s = .next { s with ports := s.answered p .range [] }) ∧
      ∀ n : ClassName, byteAt body 0 = n.code →
        exec (.logRead p) s = .next { s with ports := s.answered p .ok (encClass (s.log.cls n) s.now) }) ∧
    (s.Asks p .logClear body →
      (1 < byteAt body 0 → exec (.logClear p) s = .next { s with ports := s.answered p .range [] }) ∧
      ∀ n : ClassName, byteAt body 0 = n.code →
        exec (.logClear p) s = .next { s with
          log := s.log.setCls n { first := none, nextSet := [], count := 0 }
          ports := s.answered p .ok (encClass (s.log.cls n) s.now) })

/-! ## Riser ports -/

/-- What an ATTACHED port sends next once its downlink is idle (R175, R174): the oldest response, otherwise the oldest
notice, which leaves its queue, otherwise the head entry of its output queue, otherwise nothing. -/
def nextFrame (r : PortRec) (queue : List Entry) : PortRec :=
  if r.responses ≠ [] then { r with downlink := .response }
  else
    match r.notices with
    | n :: rest => { r with downlink := .notice n, notices := rest }
    | [] => if queue ≠ [] then { r with downlink := .packet } else { r with downlink := .idle }

/-- A record that a response is appended to: an idle downlink starts to send it (R175). -/
def responded (r : PortRec) (x : Response) : PortRec :=
  { r with responses := r.responses ++ [x], downlink := if r.downlink = .idle then .response else r.downlink }

/-- The requests of the part, each with its code and the length its body must have (R200): the list of a SUBSCRIBE has its
count at byte 3 and that of a FILTER_SET at byte 1, so that a body too short to hold its count has another length. -/
def requestTable (body : List Byte) : List (ReqKind × Byte × Nat) :=
  [(.planWrite, 0x10, 24), (.planRead, 0x11, 1), (.installSet, 0x12, 8), (.planLock, 0x13, 0), (.feedSet, 0x20, 1),
    (.memoPin, 0x30, 1), (.memoUnpin, 0x31, 1), (.memoReleaseAll, 0x32, 0), (.memoFlush, 0x33, 0),
    (.memoFlushUnpinned, 0x34, 0), (.memoSeed, 0x35, 11), (.memoRead, 0x36, 1), (.memoSnapshot, 0x37, 0),
    (.subscribe, 0x40, 4 + 2 * numberOf ((body.drop 3).take 1)), (.unsubscribe, 0x41, 1),
    (.filterSet, 0x42, 2 + 2 * numberOf ((body.drop 1).take 1)), (.portSetup, 0x43, 6), (.portReset, 0x44, 0),
    (.windowSet, 0x45, 4), (.severitySet, 0x50, 2), (.logRead, 0x51, 1), (.logClear, 0x52, 1), (.status, 0x60, 3)]

/-- What R171 and R178 make of a request that reaches the head: UNSUPPORTED for a code the table does not have, MALFORMED
for another length than the table's, and RANGE for an unknown STATUS variant are answered by the port itself; none where
it passes the request on. -/
def headAnswer (kind : Byte) (body : List Byte) : Option Status :=
  match (requestTable body).find? (fun row => decide (row.2.1 = kind)) with
  | none => some .unsupported
  | some row =>
    if body.length ≠ row.2.2 then some .malformed
    else if row.1 = .status ∧ 3 < byteAt body 0 then some .range
    else none

/-- UPLINK_FRAME on an ATTACHED port with no bytes kept (R168, R169, R171, R172, R176, R199). Codes and body lengths are
those of the table of R200, and a code names the table's request and no other. A frame that passes its check is a request: with 1 to 3 requests queued it joins the tail, whether the head waits for its block or for the sending
of its answer; with none it is the head, answered UNSUPPORTED or MALFORMED (which is reported) by the port or passed to
its block; with 4 it is answered BUSY and counted, or counted as lost behind four BUSY answers. A frame that fails its
check is counted, reported and pulses the alert line for 1 ms, and the search goes on at the byte after its start byte:
with no further start byte nothing else changes, and otherwise the rest is read as bytes that arrive then. The model's
readings in it: a BUSY answer in transmission counts among the four (log entry 14), the port answers RANGE to an unknown
STATUS variant (log entry 15), a BUSY answer to a kind of 80h or above has the kind FFh (log entry 16), and bytes not yet
a frame are kept (log entry 17). -/
def Obligations.UplinkFramesBecomeRequests : Prop :=
  (∀ (kind : Byte) (k : ReqKind), ReqKind.ofCode kind = some k ↔ ∃ length, (k, kind, length) ∈ requestTable []) ∧
  (∀ (p : Port) (kind tag : Byte) (body : List Byte) (s : State), s.Settled → (s.port p).link = .attached →
    (s.port p).uplink = [] → body.length ≤ 240 →
    let r := s.port p
    let arrived : Request := { kind := kind, tag := tag, body := body, passed := false }
    let frame := controlFrame kind tag body
    (0 < r.requests.length → r.requests.length < 4 →
      (∀ q ∈ r.requests.head?, q.passed = true ∨ ∃ x ∈ r.responses, x.busy = false) →
      exec (.uplinkFrame p frame) s = .next { s with
        ports := s.ports.put p { r with requests := r.requests ++ [arrived] } }) ∧
    (r.requests = [] → (∀ x ∈ r.responses, x.busy = true) →
      match headAnswer kind body with
      | none => exec (.uplinkFrame p frame) s = .next { s with
          ports := s.ports.put p { r with requests := [{ arrived with passed := true }] } }
      | some status =>
        exec (.uplinkFrame p frame) s = .next { s with
          ports := s.ports.put p (responded { r with requests := [arrived] }
            { busy := false, kind := responseKind kind, tag := tag, body := [status.code] })
          mail := { s.mail with toLog := s.mail.toLog ++
            if status = .malformed then [{ kind := .reqMalformed, port := some p, lane := none, plan := none }]
            else [] } }) ∧
    (4 ≤ r.requests.length →
      ((r.responses.filter (fun x => x.busy)).length < 4 →
        exec (.uplinkFrame p frame) s = .next { s with
          ports := s.ports.put p (responded { r with busyAnswers := min (r.busyAnswers + 1) 4294967295 }
            { busy := true, kind := responseKind kind, tag := tag, body := [0x01] }) }) ∧
      (4 ≤ (r.responses.filter (fun x => x.busy)).length →
        exec (.uplinkFrame p frame) s = .next { s with
          ports := s.ports.put p { r with requestsLost := min (r.requestsLost + 1) 4294967295 } }))) ∧
  ∀ (p : Port) (bytes : List Byte) (s : State), s.Settled → (s.port p).link = .attached → (s.port p).uplink = [] →
    scanBody bytes = .failed bytes →
    let failed : State := { s with
      ports := s.ports.put p { s.port p with
        checkFailures := min ((s.port p).checkFailures + 1) 4294967295, pulseEnd := some (s.now + 1#32) }
      mail := { s.mail with
        toLog := s.mail.toLog ++ [{ kind := .reqCheck, port := some p, lane := none, plan := none }] } }
    ((∀ x ∈ bytes, x ≠ 0xA5) → exec (.uplinkFrame p (0xA5 :: bytes)) s = .next failed) ∧
    exec (.uplinkFrame p (0xA5 :: bytes)) s = exec (.uplinkFrame p bytes) failed

/-- The send-completes (R157, R160, R170, R174, R175). Of a response: it leaves the list, and the answer to a queued
request takes its request with it and lets the next one reach the head. Of a notice: nothing but the downlink changes. Of
a packet: the head entry leaves its queue and its slot's count falls, the slot being free at 0. Each is followed by the
next frame, and none happens while something else is sent. A next request that the port answers itself is answered in the
same event, and a malformed one is reported (R171). The model's readings in it: a command whose event cannot happen
changes nothing (log entry 4), a response stays the oldest of its list while it is sent (log entry 14), and the port
answers RANGE to an unknown STATUS variant (log entry 15). -/
def Obligations.SendCompletesFreeTheDownlink : Prop :=
  ∀ (p : Port) (s : State), s.Settled → (s.port p).link = .attached →
    let r := s.port p
    (∀ x rest, r.downlink = .response → r.responses = x :: rest →
      (x.busy = true → exec (.responseSendComplete p) s = .next { s with
        ports := s.ports.put p (nextFrame { r with responses := rest } (s.queue p)) }) ∧
      (x.busy = false → (∀ y ∈ rest, y.busy = true) →
        ((r.requests.tail = [] → exec (.responseSendComplete p) s = .next { s with
          ports := s.ports.put p (nextFrame { r with responses := rest, requests := [] } (s.queue p)) }) ∧
        ∀ q more, r.requests.tail = q :: more → q.passed = false →
          (headAnswer q.kind q.body = none →
            exec (.responseSendComplete p) s = .next { s with
              ports := s.ports.put p (nextFrame
                { r with responses := rest, requests := { q with passed := true } :: more } (s.queue p)) }) ∧
          ∀ status, headAnswer q.kind q.body = some status →
            exec (.responseSendComplete p) s = .next { s with
              ports := s.ports.put p { r with
                requests := q :: more
                responses := rest ++
                  [{ busy := false, kind := responseKind q.kind, tag := q.tag, body := [status.code] }] }
              mail := { s.mail with toLog := s.mail.toLog ++
                if status = .malformed then [{ kind := .reqMalformed, port := some p, lane := none, plan := none }]
                else [] } }))) ∧
    (∀ n, r.downlink = .notice n → exec (.noticeSendComplete p) s = .next { s with
      ports := s.ports.put p (nextFrame r (s.queue p)) }) ∧
    (∀ e rest, r.downlink = .packet → s.queue p = e :: rest →
      exec (.sendComplete p) s = .next { s with
        pool := { s.pool with
          queues := s.pool.queues.put p rest, slots := Tab.put s.pool.slots e.slot (unnamed 1 (s.slot e.slot)) }
        ports := s.ports.put p (nextFrame r rest) }) ∧
    (r.downlink ≠ .response → exec (.responseSendComplete p) s = .next s) ∧
    ((∀ n, r.downlink ≠ .notice n) → exec (.noticeSendComplete p) s = .next s) ∧
    (r.downlink ≠ .packet → exec (.sendComplete p) s = .next s)

/-- The command by which the admission controller takes a lane's report. -/
def takingOf : AdmMsg → Instr
  | .rate l _ => .rateReport l
  | .state l _ => .laneStateChange l
  | .toFree l => .changeToFree l

/-- The link events (R140, R148, R158, R164 to R166). LINK_UP: an UNATTACHED port attaches FRESH; a HOLDING one RESUMED,
its hold start dropped, every subscription derived again with a notice for each. LINK_DOWN: HOLDING from now, queues and
downlink emptied, the output queue removed from the pool, PORT_DETACHED reported, every subscription that is not so yet
reported HELD, charges and flags kept; a discard that the port's PLAN_WRITE awaits goes on without an answer (R16).
HOLD_EXPIRY: UNATTACHED, every subscription removed, the defaults restored, PORT_EXPIRED reported. No other port is
touched, no event of a link is a turn of the arbiter, and the front end moves toward a changed target (R35, R36, R38). A
link event is taken behind the lanes' reports given before it (R123): with a report waiting it is what it is after the
admission controller has taken that report (the model's reading, log entry 32). That a resumed port's notices stand in
ascending id is the model's choice (log entry 31). -/
def Obligations.LinkEventsAttachHoldAndExpire : Prop :=
  (∀ (p : Port) (m : AdmMsg) (rest : List AdmMsg) (s : State), s.mail.toAdm = m :: rest →
    ∃ t, exec (takingOf m) s = .next t ∧
      ((s.port p).link ≠ .attached → exec (.linkUp p) s = exec (.linkUp p) t) ∧
      ((s.port p).link = .attached → exec (.linkDown p) s = exec (.linkDown p) t) ∧
      ∀ t0, (s.port p).link = .holding → (s.port p).holdStart = some t0 →
        s.plan.settings.hold * 1000 ≤ (s.now - t0).toNat → exec (.holdExpiry p) s = exec (.holdExpiry p) t) ∧
  ∀ (p : Port) (s : State), s.Settled → s.mail.toAdm = [] →
    let r := s.port p
    let kept := fun t : State => t.fe = steered s t.target
    (r.link = .unattached → r.responses = [] → r.notices = [] → s.queue p = [] →
      ∃ t, exec (.linkUp p) s = .next t ∧ kept t ∧ t = { s with
        fe := t.fe, ports := s.ports.put p { r with link := .attached, attach := some .fresh } }) ∧
    (r.link = .holding → r.responses = [] → r.notices = [] → r.downlink = .idle → s.queue p = [] →
      (∀ i u, s.sub p i = some u → (s.admLane u.lane).seen ≠ .free) →
      let d := fun u : Sub => rowFor .attached u.overload u.liveMark (s.admLane u.lane).seen
      let notices := allIds.filterMap (fun i => (s.sub p i).map (fun u =>
        Notice.streamState i (some (d u, u.lane, u.charge))))
      ∃ t, exec (.linkUp p) s = .next t ∧ kept t ∧
        t.port p = nextFrame
          { r with link := .attached, attach := some .resumed, holdStart := none, notices := notices } [] ∧
        (∀ i, t.sub p i = (s.sub p i).map (fun u => reportedAs u (d u))) ∧
        (t.admPort p).committed = (s.admPort p).committed ∧ (t.admPort p).capacity = (s.admPort p).capacity ∧
        (t.admPort p).standby = (s.admPort p).standby ∧
        (∀ q, q ≠ p → t.port q = s.port q ∧ t.admPort q = s.admPort q) ∧ t.adm.lanes = s.adm.lanes ∧
        t.adm.lastServed = s.adm.lastServed ∧
        t = { s with fe := t.fe, adm := t.adm, ports := t.ports }) ∧
    (r.link = .attached →
      ∃ t, exec (.linkDown p) s = .next t ∧ kept t ∧
        t.port p = { r with
          link := .holding, holdStart := some s.now, uplink := [], requests := [], responses := [], notices := [],
          downlink := .idle } ∧
        (∀ i, t.sub p i = (s.sub p i).map (fun u => { u with reported := .held })) ∧
        (t.admPort p).committed = (s.admPort p).committed ∧ (t.admPort p).capacity = (s.admPort p).capacity ∧
        (t.admPort p).standby = (s.admPort p).standby ∧ t.quota p = s.quota p ∧
        t.queue p = [] ∧ (∀ i, t.slot i = unnamed (naming i (s.queue p)) (s.slot i)) ∧
        (∀ q, q ≠ p → t.port q = s.port q ∧ t.admPort q = s.admPort q ∧ t.queue q = s.queue q ∧ t.quota q = s.quota q) ∧
        t.adm.lanes = s.adm.lanes ∧ t.adm.lastServed = s.adm.lastServed ∧
        t.plan = { s.plan with
          discard := s.plan.discard.map (fun d => if d.answerTo = some p then { d with answerTo := none } else d) } ∧
        t = { s with
          plan := t.plan, fe := t.fe, adm := t.adm, pool := t.pool, ports := t.ports
          mail := { s.mail with
            toLog := s.mail.toLog ++ [{ kind := .portDetached, port := some p, lane := none, plan := none }] } }) ∧
    ∀ t0, r.link = .holding → r.holdStart = some t0 → s.plan.settings.hold * 1000 ≤ (s.now - t0).toNat →
      let fall := fun l => (allIds.filter (fun i => decide ((s.sub p i).map Sub.lane = some l))).length
      ∃ t, exec (.holdExpiry p) s = .next t ∧ kept t ∧ t.port p = { r with link := .unattached, holdStart := none } ∧
        (∀ i, t.sub p i = none) ∧ (t.admPort p).capacity = 100000 ∧ (t.admPort p).standby = .idle ∧
        (t.admPort p).committed = (s.admPort p).committed - s.chargedSum p ∧
        t.quota p = min 32 (128 - (s.quotaSum - s.quota p)) ∧ t.queue p = [] ∧
        (∀ i, t.slot i = unnamed (naming i (s.queue p)) (s.slot i)) ∧
        (∀ q, q ≠ p → t.port q = s.port q ∧ t.admPort q = s.admPort q ∧ t.queue q = s.queue q ∧ t.quota q = s.quota q) ∧
        (∀ l, t.admLane l = { s.admLane l with share := (s.admLane l).share - fall l }) ∧
        t.adm.lastServed = s.adm.lastServed ∧ (∀ l, t.lane l = afterFall s l (fall l)) ∧
        (∀ l, t.mail.toStore.get l = s.mail.toStore.get l ++ fallTells s l (fall l)) ∧
        ((∀ l, OneSubPerPort s l) → t.mail.toAdm = removalReports s p) ∧
        t = { s with
          fe := t.fe, lanes := t.lanes, adm := t.adm, pool := t.pool, ports := t.ports
          mail := { s.mail with
            toStore := t.mail.toStore, toAdm := t.mail.toAdm
            toLog := s.mail.toLog ++ [{ kind := .portExpired, port := some p, lane := none, plan := none }] } }

/-! ## Packet pool -/

/-- PACKET_EVENT (R149 to R155), with at most one subscription of a port on the lane. A null packet is discarded. A
subscription that is OVERLOAD, whose port is not ATTACHED or whose list the PID does not pass is passed over; a DROP one
counts an uncorrectable packet as error-dropped; of the rest, one whose queue is full counts an overflow, reported
QUEUE_OVERFLOW; each other is appended an entry with its own tag, its continuity advanced modulo 16,
its first-after flag cleared, its delivered or marked counter raised. The packet fills one free slot, its count the
number of entries appended, with the error flag set where it was uncorrectable; without a free slot POOL_EXHAUSTED is
reported and each counts an overflow. -/
def Obligations.PacketEventQueuesThePacket : Prop :=
  ∀ (l : LaneId) (m : PacketMsg) (rest : List PacketMsg) (s : State), s.Settled → s.mail.toPool.get l = m :: rest →
    let taken := { s.mail with toPool := Tab.put s.mail.toPool l rest }
    let pid := (byteAt m.bytes 1 % 32) * 256 + byteAt m.bytes 2
    let bad := decide (m.outcome = .uncorrectable)
    let offered := fun p (u : Sub) => decide (u.lane = l) && !u.overload && decide ((s.port p).link = .attached) &&
      (decide (u.pids = []) || decide (pid ∈ u.pids))
    let accepts := fun p (u : Sub) => offered p u && !(bad && decide (u.mode = .drop))
    let room := fun p => decide ((s.queue p).length < s.quota p)
    let holders := fun test : Port → Sub → Bool => allKeys.filter (fun k =>
      match s.sub k.1 k.2 with
      | none => false
      | some u => test k.1 u)
    let receivers := holders (fun p u => accepts p u && room p)
    let overflows := allKeys.filterMap (fun k =>
      match s.sub k.1 k.2 with
      | none => none
      | some u =>
        if (accepts k.1 u && !room k.1) = true then
          some { kind := ErrorKind.queueOverflow, port := some k.1, lane := some l, plan := some u.channel : Occurrence }
        else none)
    (pid = 8191 → exec (.packetEvent l) s = .next { s with mail := taken }) ∧
    (pid ≠ 8191 → OneSubPerPort s l →
      ∃ t, exec (.packetEvent l) s = .next t ∧
        (∀ p i u, s.sub p i = some u →
          (offered p u = false → t.sub p i = some u) ∧
          (offered p u = true → accepts p u = false →
            t.sub p i = some { u with errorDropped := counted u.errorDropped 1 }) ∧
          (accepts p u = true → room p = false →
            t.sub p i = some { u with overflowDropped := counted u.overflowDropped 1 })) ∧
        (∀ p i, s.sub p i = none → t.sub p i = none) ∧
        t.adm.lanes = s.adm.lanes ∧ t.adm.lastServed = s.adm.lastServed ∧ t.pool.quotas = s.pool.quotas ∧
        (∀ p, (t.admPort p).committed = (s.admPort p).committed ∧ (t.admPort p).capacity = (s.admPort p).capacity ∧
          (t.admPort p).standby = (s.admPort p).standby) ∧
        t = { s with
          adm := t.adm, pool := t.pool, ports := t.ports, slotPicks := t.slotPicks
          mail := { taken with toLog := t.mail.toLog } } ∧
        (receivers = [] → t.pool = s.pool ∧ t.ports = s.ports ∧ t.mail.toLog = s.mail.toLog ++ overflows) ∧
        (receivers ≠ [] → (∀ i, s.slot i ≠ none) →
          (∀ p i u, s.sub p i = some u → accepts p u = true → room p = true →
            t.sub p i = some { u with overflowDropped := counted u.overflowDropped 1 }) ∧
          t.pool = s.pool ∧ t.ports = s.ports ∧ t.mail.toLog = s.mail.toLog ++ (overflows ++
            [{ kind := .poolExhausted, port := none, lane := some l, plan := (s.admLane l).channel }])) ∧
        (receivers ≠ [] → (∃ i, s.slot i = none) → t.mail.toLog = s.mail.toLog ++ overflows ∧
          ∃ slot, s.slot slot = none ∧
            t.slot slot = some {
              packet := if bad = true then m.bytes.modify 1 (fun b => b ||| 0x80) else m.bytes
              refs := receivers.length } ∧
            (∀ i, i ≠ slot → t.slot i = s.slot i) ∧
            (∀ p i u, s.sub p i = some u → accepts p u = true → room p = true →
              t.sub p i = some { u with
                continuity := u.continuity + 1, firstAfter := false
                marked := counted u.marked (if bad = true then 1 else 0)
                delivered := counted u.delivered (if bad = true then 0 else 1) } ∧
              t.queue p = s.queue p ++ [{
                slot := slot, port := p, id := i, lane := l, continuity := u.continuity, errorFlag := bad,
                firstAfter := u.firstAfter }] ∧
              t.port p = { s.port p with
                downlink := if (s.port p).downlink = .idle then .packet else (s.port p).downlink }) ∧
            ∀ p, (∀ i, (p, i) ∉ receivers) → t.queue p = s.queue p ∧ t.port p = s.port p))

/-! ## Demodulator lanes -/

/-- An occurrence that a lane reports: it carries the lane and the lane's channel (R182). -/
def laneFault (s : State) (kind : ErrorKind) (l : LaneId) : Occurrence :=
  { kind := kind, port := none, lane := some l, plan := (s.lane l).channel }

/-- The store's answers at the lane. LOOKUP_ANSWER (R64 to R66): memo and parameter set as the answer gives them, a rate
report, MEMO_UNAVAILABLE where there was no victim, and on to SENSE where the input is usable. RESTART_ALLOCATION_ANSWER
(R83): the memo, no report of any kind, and on to SENSE once no other is awaited (log entry 11). An answer for a lane that
is FREE, that has another channel, or that asked in an earlier assignment (log entry 21) is discarded. -/
def Obligations.StoreAnswersReachTheLane : Prop :=
  ∀ (l : LaneId) (x : PlanIndex) (rest : List LaneMsg) (s : State),
    let taken := { s.mail with toLane := Tab.put s.mail.toLane l rest }
    let old := (s.lane l).state = .free ∨ (s.lane l).channel ≠ some x ∨ 0 < (s.lane l).staleAnswers
    let discarded : State := { s with
      lanes := Tab.put s.lanes l { s.lane l with staleAnswers := (s.lane l).staleAnswers - 1 }, mail := taken }
    (∀ answer, s.mail.toLane.get l = .lookup x answer :: rest →
      (old → exec (.lookupAnswer l) s = .next discarded) ∧
      (¬ old →
        let params := match answer with
          | none => Params.absent
          | some a => a.2
        exec (.lookupAnswer l) s = .next { s with
          lanes := Tab.put s.lanes l (sensing s { s.lane l with
            lookupPending := false, memo := answer.map (fun a => a.1), params := params })
          mail := { taken with
            toAdm := s.mail.toAdm ++ [AdmMsg.rate l params.streamRate]
            toLog := s.mail.toLog ++ if answer = none then [laneFault s .memoUnavailable l] else [] } })) ∧
    ∀ answer, s.mail.toLane.get l = .restart x answer :: rest →
      (old → exec (.restartAllocationAnswer l) s = .next discarded) ∧
      (¬ old →
        exec (.restartAllocationAnswer l) s = .next { s with
          lanes := Tab.put s.lanes l (sensing s { s.lane l with
            restartsPending := (s.lane l).restartsPending - 1, memo := answer })
          mail := taken })

/-- The parameter set after a write or a clear of fields, its rate recomputed (R62). -/
def written (s : State) (l : LaneId) (g : Params → Params) : Params :=
  { g (s.lane l).params with streamRate := rateFrom ((s.lane l).channel.bind s.bandwidth) (g (s.lane l).params) }

/-- The memos after the same write to the lane's memo, its rate recomputed from its own fields (R62, R93, R98). -/
def memosWritten (s : State) (l : LaneId) (g : Params → Params) : Vector Memo 16 :=
  match (s.lane l).memo with
  | none => s.store.memos
  | some m => Tab.put s.store.memos m { s.memo m with
      fields := { g (s.memo m).fields with
        streamRate := rateFrom ((s.memo m).tag.bind s.bandwidth) (g (s.memo m).fields) } }

/-- CELL_CHANGED where a present cell identifier differs from the new one (R72). -/
def cellReport (s : State) (l : LaneId) (cell : BitVec 16) : List Occurrence :=
  if (s.lane l).params.cell = none ∨ (s.lane l).params.cell = some cell then [] else [laneFault s .cellChanged l]

/-- The success events of acquisition (R67 to R73, R75, R77, R99): SIGNAL_PRESENT to VERIFY or CARRIER by the five fields,
CARRIER_FOUND to FRAME, FRAME_DECODED and SIGNALLING_MATCH to STREAM, STREAM_SYNC to LOCKED with its recheck timer and,
from a lane with a memo, a lock notice; each with its writes to set and memo, its rate report where R73 lists it, and its
timer. A success event out of its stage is discarded (R74). -/
def Obligations.StageSuccessesAdvanceTheLane : Prop :=
  ∀ (l : LaneId) (s : State),
    let x := s.lane l
    (x.state = .acquire .sense → exec (.signalPresent l) s = .next { s with lanes := Tab.put s.lanes l (
      if x.params.offset.isSome && x.params.mode.isSome && x.params.guard.isSome && x.params.constellation.isSome &&
          x.params.codeRate.isSome then
        { x with state := .acquire .verify, stageTimer := some (s.now + 60#32) }
      else { x with state := .acquire .carrier, stageTimer := some (s.now + 250#32) }) }) ∧
    (∀ offset mode guard, x.state = .acquire .carrier →
      let g := fun f : Params => { f with offset := some offset, mode := some mode, guard := some guard }
      exec (.carrierFound l offset mode guard) s = .next { s with
        lanes := Tab.put s.lanes l
          { x with params := written s l g, state := .acquire .frame, stageTimer := some (s.now + 300#32) }
        store := { s.store with memos := memosWritten s l g }
        mail := { s.mail with toAdm := s.mail.toAdm ++
          if (written s l g).streamRate = none then [] else [AdmMsg.rate l (written s l g).streamRate] } }) ∧
    (∀ constellation codeRate cell, x.state = .acquire .frame →
      let g := fun f : Params =>
        { f with constellation := some constellation, codeRate := some codeRate, cell := some cell }
      exec (.frameDecoded l constellation codeRate cell) s = .next { s with
        lanes := Tab.put s.lanes l
          { x with params := written s l g, state := .acquire .stream, stageTimer := some (s.now + 200#32) }
        store := { s.store with memos := memosWritten s l g }
        mail := { s.mail with
          toAdm := s.mail.toAdm ++ [AdmMsg.rate l (written s l g).streamRate]
          toLog := s.mail.toLog ++ cellReport s l cell } }) ∧
    (∀ cell, x.state = .acquire .verify →
      let g := fun f : Params => { f with cell := some cell }
      exec (.signallingMatch l cell) s = .next { s with
        lanes := Tab.put s.lanes l
          { x with params := written s l g, state := .acquire .stream, stageTimer := some (s.now + 200#32) }
        store := { s.store with memos := memosWritten s l g }
        mail := { s.mail with toLog := s.mail.toLog ++ cellReport s l cell } }) ∧
    (x.state = .acquire .stream → exec (.streamSync l) s = .next { s with
      lanes := Tab.put s.lanes l { x with
        state := .locked, stageTimer := none, readPending := false, coastTimer := none, retryTimer := none
        recheckTimer := some (s.now + if x.unsettled.isSome then 500#32 else 2000#32) }
      mail := { s.mail with
        toAdm := s.mail.toAdm ++ [AdmMsg.state l .locked]
        toStore := match x.memo with
          | none => s.mail.toStore
          | some m => Tab.put s.mail.toStore l (s.mail.toStore.get l ++ [StoreMsg.lock m]) } }) ∧
    (x.state ≠ .acquire .sense → exec (.signalPresent l) s = .next s) ∧
    (∀ offset mode guard, x.state ≠ .acquire .carrier → exec (.carrierFound l offset mode guard) s = .next s) ∧
    (∀ constellation codeRate cell, x.state ≠ .acquire .frame →
      exec (.frameDecoded l constellation codeRate cell) s = .next s) ∧
    (∀ cell, x.state ≠ .acquire .verify →
      exec (.signallingMatch l cell) s = .next s ∧ exec (.signallingMismatch l) s = .next s) ∧
    (x.state ≠ .acquire .stream → exec (.streamSync l) s = .next s)

/-- A lane in HOLDOFF(NO_SIGNAL) or HOLDOFF(FAILED): every timer stopped but a retry timer of 5,000 ms (R82). -/
def heldOff (now : Time) (reason : HoldoffReason) (x : Lane) : Lane :=
  { x with
    state := .holdoff reason, stageTimer := none, recheckTimer := none, readPending := false, coastTimer := none
    retryTimer := some (now + 5000#32) }

/-- What a counted attempt makes of a lane (R71, R67): SENSE again below 3, HOLDOFF(FAILED) at 3. -/
def attempted (s : State) (x : Lane) : Lane :=
  let y := { x with attempts := x.attempts + 1 }
  if x.attempts + 1 < 3 then sensed s y else heldOff s.now .failed y

/-- The timeouts of acquisition and the mismatch (R67 to R71, R73, R82): SENSE gives HOLDOFF(NO_SIGNAL), nothing cleared;
CARRIER, FRAME and STREAM clear their fields in set and memo, report a rate they cleared, and count an attempt, the third
giving HOLDOFF(FAILED) and ACQ_FAIL; a mismatch and a VERIFY timeout clear everything but the offset, report
MEMO_MISMATCH and a rate they cleared, and give CARRIER with the attempts unchanged. A stage timer has run out as log
entry 3 reads a time. -/
def Obligations.StageTimeoutsCountAttempts : Prop :=
  ∀ (l : LaneId) (t0 : Time) (s : State),
    let x := s.lane l
    let due := x.stageTimer = some t0 ∧ (s.now - t0).toNat < 2147483648
    let cleared := if x.params.streamRate = none then [] else [AdmMsg.rate l none]
    let after := fun (g : Params → Params) (reports : List AdmMsg) => ({ s with
      lanes := Tab.put s.lanes l (attempted s { x with params := written s l g })
      store := { s.store with memos := memosWritten s l g }
      mail := { s.mail with
        toAdm := s.mail.toAdm ++ (reports ++ if x.attempts + 1 < 3 then [] else [AdmMsg.state l .holdoff])
        toLog := s.mail.toLog ++ if x.attempts + 1 < 3 then [] else [laneFault s .acqFail l] } } : State)
    let mismatched := ({ s with
      lanes := Tab.put s.lanes l { x with
        params := written s l (fun f =>
          { f with mode := none, guard := none, constellation := none, codeRate := none, cell := none })
        state := .acquire .carrier, stageTimer := some (s.now + 250#32) }
      store := { s.store with memos := memosWritten s l (fun f =>
        { f with mode := none, guard := none, constellation := none, codeRate := none, cell := none }) }
      mail := { s.mail with
        toAdm := s.mail.toAdm ++ cleared, toLog := s.mail.toLog ++ [laneFault s .memoMismatch l] } } : State)
    (x.state = .acquire .sense → due → exec (.senseTimeout l) s = .next { s with
      lanes := Tab.put s.lanes l (heldOff s.now .noSignal x)
      mail := { s.mail with toAdm := s.mail.toAdm ++ [AdmMsg.state l .holdoff] } }) ∧
    (x.state = .acquire .carrier → due → exec (.carrierTimeout l) s = .next
      (after (fun f => { f with offset := none, mode := none, guard := none }) cleared)) ∧
    (x.state = .acquire .frame → due → exec (.frameTimeout l) s = .next
      (after (fun f => { f with constellation := none, codeRate := none, cell := none }) cleared)) ∧
    (x.state = .acquire .stream → due → exec (.streamTimeout l) s = .next { s with
      lanes := Tab.put s.lanes l (attempted s x)
      mail := { s.mail with
        toAdm := s.mail.toAdm ++ if x.attempts + 1 < 3 then [] else [AdmMsg.state l .holdoff]
        toLog := s.mail.toLog ++ if x.attempts + 1 < 3 then [] else [laneFault s .acqFail l] } }) ∧
    (x.state = .acquire .verify → exec (.signallingMismatch l) s = .next mismatched) ∧
    (x.state = .acquire .verify → due → exec (.verifyTimeout l) s = .next mismatched)

/-- The messages to the store after a lane restarts (R83, R101). -/
def restartAsks (s : State) (l : LaneId) : Vector (List StoreMsg) 6 :=
  Tab.put s.mail.toStore l (s.mail.toStore.get l ++ restartAsked (s.lane l))

/-- The LOCKED and COAST events and the restarts (R75 to R78, R80, R82, R83): SYNC_LOST gives COAST for 100 ms;
SYNC_REGAINED gives LOCKED again; a coast expiry restarts the lane, reports LOCK_LOST and makes it UNSETTLED for
60,000 ms; a retry expiry restarts it; a recheck expiry asks for a read and starts again; RECHECK clears the mark, and
where a signalling field differs writes the four, reports SIGNALLING_CHANGE and the new rate, and writes and reports a
cell identifier that differs from a present one; where nothing differs it changes nothing else. The model's readings in
it: a timer has run out as log entry 3 reads a time, every restart asks the store and waits for its answer (log entry 11),
and an absent cell identifier stays absent (log entry 22). -/
def Obligations.LockedLanesCoastRestartAndRecheck : Prop :=
  ∀ (l : LaneId) (t0 : Time) (s : State),
    let x := s.lane l
    let period := if x.unsettled.isSome then 500#32 else 2000#32
    (x.state = .locked → exec (.syncLost l) s = .next { s with
      lanes := Tab.put s.lanes l { x with
        state := .coast, stageTimer := none, recheckTimer := none, readPending := false, retryTimer := none
        coastTimer := some (s.now + 100#32) }
      mail := { s.mail with toAdm := s.mail.toAdm ++ [AdmMsg.state l .coast] } }) ∧
    (x.state = .coast → exec (.syncRegained l) s = .next { s with
      lanes := Tab.put s.lanes l { x with
        state := .locked, stageTimer := none, readPending := false, coastTimer := none, retryTimer := none
        recheckTimer := some (s.now + period) }
      mail := { s.mail with toAdm := s.mail.toAdm ++ [AdmMsg.state l .locked] } }) ∧
    (x.state = .coast → x.coastTimer = some t0 → (s.now - t0).toNat < 2147483648 →
      exec (.coastExpiry l) s = .next { s with
        lanes := Tab.put s.lanes l (sensing s (restarted { x with unsettled := some (s.now + 60000#32) }))
        mail := { s.mail with
          toAdm := s.mail.toAdm ++ [AdmMsg.state l .acquire]
          toStore := restartAsks s l
          toLog := s.mail.toLog ++ [laneFault s .lockLost l] } }) ∧
    (x.state = .holdoff .noSignal ∨ x.state = .holdoff .failed → x.retryTimer = some t0 →
      (s.now - t0).toNat < 2147483648 →
      exec (.retryExpiry l) s = .next { s with
        lanes := Tab.put s.lanes l (sensing s (restarted x))
        mail := { s.mail with
          toAdm := s.mail.toAdm ++ [AdmMsg.state l .acquire], toStore := restartAsks s l } }) ∧
    (x.state = .locked → x.recheckTimer = some t0 → (s.now - t0).toNat < 2147483648 →
      exec (.recheckTimerExpiry l) s = .next { s with
        lanes := Tab.put s.lanes l { x with readPending := true, recheckTimer := some (s.now + period) } }) ∧
    (∀ mode guard constellation codeRate cell, x.state = .locked → x.readPending = true →
      let differs := x.params.mode ≠ some mode ∨ x.params.guard ≠ some guard ∨
        x.params.constellation ≠ some constellation ∨ x.params.codeRate ≠ some codeRate
      let newCell := x.params.cell ≠ none ∧ x.params.cell ≠ some cell
      let g := fun f : Params => { f with
        mode := some mode, guard := some guard, constellation := some constellation, codeRate := some codeRate
        cell := if newCell then some cell else f.cell }
      (differs → exec (.recheck l mode guard constellation codeRate cell) s = .next { s with
        lanes := Tab.put s.lanes l { x with readPending := false, params := written s l g }
        store := { s.store with memos := memosWritten s l g }
        mail := { s.mail with
          toAdm := s.mail.toAdm ++ [AdmMsg.rate l (written s l g).streamRate]
          toLog := s.mail.toLog ++ (laneFault s .signallingChange l ::
            if newCell then [laneFault s .cellChanged l] else []) } }) ∧
      (¬ differs → x.params.cell = none ∨ x.params.cell = some cell →
        exec (.recheck l mode guard constellation codeRate cell) s = .next { s with
          lanes := Tab.put s.lanes l { x with readPending := false } }) ∧
      (¬ differs → newCell →
        exec (.recheck l mode guard constellation codeRate cell) s = .next { s with
          lanes := Tab.put s.lanes l { x with
            readPending := false, params := written s l (fun f => { f with cell := some cell }) }
          store := { s.store with memos := memosWritten s l (fun f => { f with cell := some cell }) }
          mail := { s.mail with toLog := s.mail.toLog ++ [laneFault s .cellChanged l] } })) ∧
    (x.state ≠ .locked → exec (.syncLost l) s = .next s ∧
      ∀ mode guard constellation codeRate cell, exec (.recheck l mode guard constellation codeRate cell) s = .next s) ∧
    (x.state ≠ .coast → exec (.syncRegained l) s = .next s)

/-- Packets and the UNSETTLED condition (R79 to R81, R77): LANE_PACKET counts by outcome, saturating, adds to the
error-rate window, which the 1,000th packet completes, and hands the packet to the pool; a completed window at or above
the threshold sets or restarts UNSETTLED for 60,000 ms, reports LANE_UNSETTLED where the flag was clear, and brings a
LOCKED lane's recheck to within 500 ms, and one below it changes nothing else; at its expiry the flag clears. A packet
that comes out of LOCKED is discarded (R74). The model's readings in it: the 1,000th packet resets the window's counts and
the completed count waits for its comparison (log entry 6), and times are compared as log entry 3 says. -/
def Obligations.PacketsCountAndUnsettleTheLane : Prop :=
  ∀ (l : LaneId) (s : State),
    let x := s.lane l
    (∀ outcome bytes, x.state = .locked →
      let bad := x.windowUncorrectable + if outcome = .uncorrectable then 1 else 0
      let full := decide (1000 ≤ x.windowPackets + 1)
      exec (.lanePacket l outcome bytes) s = .next { s with
        lanes := Tab.put s.lanes l { x with
          packets := min (x.packets + 1) 4294967295
          correctedPackets := match outcome with
            | .corrected _ => min (x.correctedPackets + 1) 4294967295
            | _ => x.correctedPackets
          correctedBytes := match outcome with
            | .corrected n => min (x.correctedBytes + n) 4294967295
            | _ => x.correctedBytes
          uncorrectable := if outcome = .uncorrectable then min (x.uncorrectable + 1) 4294967295 else x.uncorrectable
          windowPackets := if full = true then 0 else x.windowPackets + 1
          windowUncorrectable := if full = true then 0 else bad
          windowsDone := if full = true then x.windowsDone ++ [bad] else x.windowsDone }
        mail := { s.mail with
          toPool := Tab.put s.mail.toPool l (s.mail.toPool.get l ++ [{ bytes := bytes, outcome := outcome }]) } }) ∧
    (∀ outcome bytes, x.state ≠ .locked → exec (.lanePacket l outcome bytes) s = .next s) ∧
    (∀ bad rest, x.windowsDone = bad :: rest →
      (bad < s.plan.settings.unsettle → exec (.errorRateWindowComplete l) s = .next { s with
        lanes := Tab.put s.lanes l { x with windowsDone := rest } }) ∧
      (s.plan.settings.unsettle ≤ bad → exec (.errorRateWindowComplete l) s = .next { s with
        lanes := Tab.put s.lanes l { x with
          windowsDone := rest, unsettled := some (s.now + 60000#32)
          recheckTimer := match x.recheckTimer with
            | none => none
            | some t =>
              if x.state = .locked ∧ 2147483648 ≤ (s.now - t).toNat ∧ 500 < (t - s.now).toNat then
                some (s.now + 500#32)
              else some t }
        mail := { s.mail with toLog := s.mail.toLog ++
          if x.unsettled = none then [laneFault s .laneUnsettled l] else [] } })) ∧
    ∀ t0, x.unsettled = some t0 → (s.now - t0).toNat < 2147483648 →
      exec (.unsettledExpiry l) s = .next { s with lanes := Tab.put s.lanes l { x with unsettled := none } }

/-! ## Encoding -/

/-- The body of a notice (R202). -/
def noticeFields : Notice → List Byte
  | .streamState id none => bytesOf 1 id.val ++ [0xFF, 0xFF, 0xFF, 0xFF]
  | .streamState id (some (state, lane, charge)) =>
    bytesOf 1 id.val ++ bytesOf 1 state.code ++ bytesOf 1 lane.val ++ bytesOf 2 charge
  | .window edge state event =>
    bytesOf 4 edge ++ bytesOf 1 state.code ++ [match event with
      | .move => 0
      | .retuneCompletion => 1]
  | .feed state retryCount => bytesOf 1 state.code ++ bytesOf 1 retryCount
  | .log cls r =>
    bytesOf 1 cls.code ++ bytesOf 1 r.kind.index.val ++ bytesOf 1 r.severity.code ++ bytesOf 4 r.stamp.toNat ++
      field 1 (r.port.map (fun x => x.code)) ++ field 1 (r.lane.map (fun x => x.val)) ++
      field 1 (r.plan.map (fun x => x.val))

/-- The kind of a notice and the length of its body (R202). -/
def noticeKind : Notice → Byte × Nat
  | .streamState _ _ => (0x01, 5)
  | .window _ _ _ => (0x02, 6)
  | .feed _ _ => (0x03, 2)
  | .log _ _ => (0x04, 10)

/-- Reading back what was written (R168, R198, R199): the port finds in its uplink bytes exactly the frame that was sent,
whatever bytes other than the start byte stand before it and whatever stands after it; a frame of a body above 240 bytes
fails, and so does one whose two check bytes are not the check code of kind, length, tag and body, the search going on
behind its start byte; and every request's kind reads back from its code. Of a frame that is not whole, whatever its check
bytes will be, the bytes come are kept from the start byte on (log entry 17), and bytes with no start byte are skipped. The
check code of "123456789" is 29B1h. What the downlink sends (R163, R175, R199, R202, R203): the
oldest response or the notice as a control frame, or the head entry of the output queue as its tag header of four bytes,
bit by bit as R203 lays it out, and the slot's packet. -/
def Obligations.FramesReadBackAsWritten : Prop :=
  checkBytes [0x31, 0x32, 0x33, 0x34, 0x35, 0x36, 0x37, 0x38, 0x39] = [0x29, 0xB1] ∧
  (∀ (kind tag : Byte) (body : List Byte),
    let covered := kind :: (bytesOf 2 body.length ++ tag :: body)
    controlFrame kind tag body = 0xA5 :: (covered ++ checkBytes covered)) ∧
  (∀ (kind tag c1 c0 : Byte) (body rest : List Byte), body.length ≤ 240 →
    let covered := kind :: (bytesOf 2 body.length ++ tag :: body)
    [c1, c0] ≠ checkBytes covered →
    scanBody (covered ++ (c1 :: c0 :: rest)) = .failed (covered ++ (c1 :: c0 :: rest))) ∧
  (∀ (noise : List Byte) (kind tag c1 c0 : Byte) (body : List Byte) (n : Nat), (∀ b ∈ noise, b ≠ 0xA5) →
    body.length ≤ 240 →
    let frame := 0xA5 :: (kind :: (bytesOf 2 body.length ++ tag :: body) ++ [c1, c0])
    scanFrame noise = .more [] ∧
      (0 < n → n < frame.length → scanFrame (noise ++ frame.take n) = .more (frame.take n))) ∧
  (∀ (noise : List Byte) (kind tag : Byte) (body rest : List Byte), (∀ b ∈ noise, b ≠ 0xA5) → body.length ≤ 240 →
    scanFrame (noise ++ (controlFrame kind tag body ++ rest)) = .passed kind tag body rest) ∧
  (∀ (kind tag : Byte) (body : List Byte), 240 < body.length → body.length < 65536 →
    scanFrame (controlFrame kind tag body) = .failed (controlFrame kind tag body).tail) ∧
  (∀ k : ReqKind, ReqKind.ofCode k.code = some k ∧ k.code.toNat < 128) ∧
  (∀ n : Notice, n.kind = (noticeKind n).1 ∧ n.body = noticeFields n ∧ n.body.length = (noticeKind n).2) ∧
  ∀ (s : State) (p : Port),
    ((s.port p).downlink = .idle → s.downlinkFrame p = none) ∧
    (∀ x rest, (s.port p).downlink = .response → (s.port p).responses = x :: rest →
      s.downlinkFrame p = some (controlFrame x.kind x.tag x.body)) ∧
    (∀ n, (s.port p).downlink = .notice n →
      s.downlinkFrame p = some (controlFrame (noticeKind n).1 0 (noticeFields n))) ∧
    ∀ (e : Entry) (rest : List Entry) (x : Slot), (s.port p).downlink = .packet → s.queue p = e :: rest →
      s.slot e.slot = some x → ∃ header : List Byte, header.length = 4 ∧ s.downlinkFrame p = some (header ++ x.packet) ∧
        byteAt header 0 = 0xB8 ∧ byteAt header 1 / 64 = e.port.code ∧ byteAt header 1 / 8 % 8 = e.id.val ∧
        byteAt header 1 % 8 = e.lane.val ∧ byteAt header 2 = 2 * flag e.errorFlag + flag e.firstAfter ∧
        byteAt header 3 / 16 = e.continuity.toNat ∧ byteAt header 3 % 16 = 15 - e.continuity.toNat

/-! ## Invariants: what every step keeps -/

/-- Laws 1 and 2 (R117): every step keeps them, with the linger and channel rules they rest on. -/
def Obligations.StepKeepsSharesAndChannels : Prop := ∀ s t, SharingLaw s → step s = .next t → SharingLaw t

/-- Law 3 (R136) and the range of a capacity (R27): every step keeps them. -/
def Obligations.StepKeepsCommittedWithinCapacity : Prop := ∀ s t, CommittedLaw s → step s = .next t → CommittedLaw t

/-- Laws 4 and 5 (R144, R145), on Laws 1 and 2: every step keeps them. -/
def Obligations.StepKeepsSlotsAndQueues : Prop := ∀ s t, QueueLaw s → step s = .next t → QueueLaw t

/-- Law 6 (R40), and the fit of every lane's channel (R41): every step keeps them. -/
def Obligations.StepKeepsTheWindow : Prop := ∀ s t, WindowLaw s → step s = .next t → WindowLaw t

/-- Law 7 (R185): every step keeps it. -/
def Obligations.StepKeepsTheLogClasses : Prop := ∀ s t, LogLaw s → step s = .next t → LogLaw t

/-- The laws of the memo store (R93, R94): every step keeps them. And a memo carries the index of a present entry only,
since a discard meets no lookup, restart or release for its index (R9, R113; log entries 26 and 34): with Laws 1 and 2 and
the fit of the lanes' channels, every step keeps that too. -/
def Obligations.StepKeepsTheMemoStore : Prop :=
  (∀ s t, MemoLaw s → step s = .next t → MemoLaw t) ∧
  ∀ s t, SharingLaw s → WindowLaw s → MemoLaw s → PlanLaw s → step s = .next t → PlanLaw t

/-- The presence and range rules of the lane record (R60): with Laws 1 and 2, every step keeps them. And a lane's stream
rate is the one the capacity arithmetic gives, and its memo holds the fields of its parameter set (R62, R93, R98, R101;
log entries 11, 21 and 40): with Laws 1 and 2 and the laws of the memo store, every step keeps that too. -/
def Obligations.StepKeepsTheLaneRecords : Prop :=
  (∀ s t, SharingLaw s → (∀ l, LaneLaw (s.lane l)) → step s = .next t → ∀ l, LaneLaw (t.lane l)) ∧
  ∀ s t, SharingLaw s → MemoLaw s → PlanLaw s → ParameterLaw s → step s = .next t → ParameterLaw t

/-- What ties the lanes to the front end (R34, R66, R82, R89): every step keeps it. -/
def Obligations.StepKeepsLanesOnAUsableInput : Prop := ∀ s t, InputLaw s → step s = .next t → InputLaw t

/-- The presence and range rules of the front end (R33, R50, R51): every step keeps them. -/
def Obligations.StepKeepsTheFrontEndRecord : Prop := ∀ s t, FrontEndLaw s.fe → step s = .next t → FrontEndLaw t.fe

/-- The rules of the port records (R163, R165, R169, R173, R175): every step keeps them. -/
def Obligations.StepKeepsThePortRecords : Prop := ∀ s t, PortLaw s → step s = .next t → PortLaw t

/-- Every law holds in the state after a cold reset, with no command waiting. -/
def Obligations.ResetMeetsEveryLaw : Prop :=
  SharingLaw State.reset ∧ CommittedLaw State.reset ∧ QueueLaw State.reset ∧ WindowLaw State.reset ∧
    LogLaw State.reset ∧ MemoLaw State.reset ∧ PlanLaw State.reset ∧ (∀ l, LaneLaw (State.reset.lane l)) ∧
    ParameterLaw State.reset ∧ InputLaw State.reset ∧ FrontEndLaw State.reset.fe ∧ PortLaw State.reset ∧ State.reset.pending = []
end

