-- ==== Sys2Proof/Laws/State.lean ====
section
/-! SUPPORT. One lemma for each field after each update of Machine/State.lean, and the reading of what was just put. -/

namespace Sys2Proof

theorem Tab.get_eq {α : Type} {n : Nat} (v : Vector α n) (i : Fin n) : v.get i = v[i.val] := rfl

theorem Tab.get_put_same {α : Type} {n : Nat} (v : Vector α n) (i : Fin n) (x : α) : (Tab.put v i x).get i = x := by
  simp [Tab.put, Tab.get_eq]

theorem Tab.get_put_other {α : Type} {n : Nat} (v : Vector α n) (i j : Fin n) (x : α) (h : i ≠ j) :
    (Tab.put v i x).get j = v.get j := by
  have hv : i.val ≠ j.val := fun e => h (Fin.ext e)
  simp [Tab.put, Tab.get_eq, Vector.getElem_set_ne, hv]

@[simp] theorem Tab.get_put {α : Type} {n : Nat} (v : Vector α n) (i j : Fin n) (x : α) :
    (Tab.put v i x).get j = if i = j then x else v.get j := by
  split
  · next h => rw [← h]; exact Tab.get_put_same v i x
  · next h => exact Tab.get_put_other v i j x h

@[simp] theorem Tab.get_replicate {α : Type} {n : Nat} (x : α) (i : Fin n) : (Vector.replicate n x).get i = x := by
  simp [Tab.get_eq]

theorem Tab.ext {α : Type} {n : Nat} {v w : Vector α n} (h : ∀ i : Fin n, v.get i = w.get i) : v = w := by
  apply Vector.ext
  intro i hi
  exact h ⟨i, hi⟩

@[simp] theorem Tab.put_get {α : Type} {n : Nat} (v : Vector α n) (i : Fin n) : Tab.put v i (v.get i) = v := by
  apply Tab.ext
  intro j
  rw [Tab.get_put]
  split
  · next h => rw [h]
  · rfl

@[simp] theorem Tab.put_put {α : Type} {n : Nat} (v : Vector α n) (i : Fin n) (x y : α) :
    Tab.put (Tab.put v i x) i y = Tab.put v i y := by
  apply Tab.ext
  intro j
  simp only [Tab.get_put]
  split <;> rfl

namespace Machine

theorem PerPort.get_put_same {α : Type} (t : PerPort α) (p : Port) (x : α) : (t.put p x).get p = x := by
  cases p <;> rfl

theorem PerPort.get_put_other {α : Type} (t : PerPort α) (p q : Port) (x : α) (h : p ≠ q) :
    (t.put p x).get q = t.get q := by
  cases p <;> cases q <;> first | rfl | exact absurd rfl h

@[simp] theorem PerPort.get_put {α : Type} (t : PerPort α) (p q : Port) (x : α) :
    (t.put p x).get q = if p = q then x else t.get q := by
  cases p <;> cases q <;> rfl

@[simp] theorem PerPort.put_put {α : Type} (t : PerPort α) (p : Port) (x y : α) : (t.put p x).put p y = t.put p y := by
  cases p <;> rfl

@[simp] theorem PerPort.put_get {α : Type} (t : PerPort α) (p : Port) : t.put p (t.get p) = t := by
  cases p <;> rfl

@[simp] theorem PerPort.get_all {α : Type} (x : α) (p : Port) : (PerPort.all x).get p = x := by
  cases p <;> rfl

theorem PerPort.ext_get {α : Type} {t u : PerPort α} (h : ∀ p, t.get p = u.get p) : t = u := by
  have ha := h .a
  have hb := h .b
  have hc := h .c
  have hd := h .d
  cases t
  cases u
  simp only [PerPort.get] at ha hb hc hd
  simp [ha, hb, hc, hd]

variable (s : State)

/-! ### setPlan -/

@[simp] theorem State.setPlan_now (x : PlanBlock) : (s.setPlan x).now = s.now := rfl
@[simp] theorem State.setPlan_plan (x : PlanBlock) : (s.setPlan x).plan = x := rfl
@[simp] theorem State.setPlan_fe (x : PlanBlock) : (s.setPlan x).fe = s.fe := rfl
@[simp] theorem State.setPlan_lanes (x : PlanBlock) : (s.setPlan x).lanes = s.lanes := rfl
@[simp] theorem State.setPlan_store (x : PlanBlock) : (s.setPlan x).store = s.store := rfl
@[simp] theorem State.setPlan_adm (x : PlanBlock) : (s.setPlan x).adm = s.adm := rfl
@[simp] theorem State.setPlan_pool (x : PlanBlock) : (s.setPlan x).pool = s.pool := rfl
@[simp] theorem State.setPlan_ports (x : PlanBlock) : (s.setPlan x).ports = s.ports := rfl
@[simp] theorem State.setPlan_log (x : PlanBlock) : (s.setPlan x).log = s.log := rfl
@[simp] theorem State.setPlan_mail (x : PlanBlock) : (s.setPlan x).mail = s.mail := rfl
@[simp] theorem State.setPlan_slotPicks (x : PlanBlock) : (s.setPlan x).slotPicks = s.slotPicks := rfl
@[simp] theorem State.setPlan_pending (x : PlanBlock) : (s.setPlan x).pending = s.pending := rfl
@[simp] theorem State.setPlan_lane (x : PlanBlock) (l' : LaneId) : (s.setPlan x).lane l' = s.lane l' := rfl
@[simp] theorem State.setPlan_port (x : PlanBlock) (p' : Port) : (s.setPlan x).port p' = s.port p' := rfl
@[simp] theorem State.setPlan_memo (x : PlanBlock) (m' : MemoId) : (s.setPlan x).memo m' = s.memo m' := rfl
@[simp] theorem State.setPlan_admLane (x : PlanBlock) (l' : LaneId) : (s.setPlan x).admLane l' = s.admLane l' := rfl
@[simp] theorem State.setPlan_admPort (x : PlanBlock) (p' : Port) : (s.setPlan x).admPort p' = s.admPort p' := rfl
@[simp] theorem State.setPlan_queue (x : PlanBlock) (p' : Port) : (s.setPlan x).queue p' = s.queue p' := rfl
@[simp] theorem State.setPlan_slot (x : PlanBlock) (i' : SlotId) : (s.setPlan x).slot i' = s.slot i' := rfl
@[simp] theorem State.setPlan_quota (x : PlanBlock) (p' : Port) : (s.setPlan x).quota p' = s.quota p' := rfl
@[simp] theorem State.setPlan_sub (x : PlanBlock) (p' : Port) (i' : SubId) : (s.setPlan x).sub p' i' = s.sub p' i' := rfl

/-! ### setFe -/

@[simp] theorem State.setFe_now (x : FrontEnd) : (s.setFe x).now = s.now := rfl
@[simp] theorem State.setFe_plan (x : FrontEnd) : (s.setFe x).plan = s.plan := rfl
@[simp] theorem State.setFe_fe (x : FrontEnd) : (s.setFe x).fe = x := rfl
@[simp] theorem State.setFe_lanes (x : FrontEnd) : (s.setFe x).lanes = s.lanes := rfl
@[simp] theorem State.setFe_store (x : FrontEnd) : (s.setFe x).store = s.store := rfl
@[simp] theorem State.setFe_adm (x : FrontEnd) : (s.setFe x).adm = s.adm := rfl
@[simp] theorem State.setFe_pool (x : FrontEnd) : (s.setFe x).pool = s.pool := rfl
@[simp] theorem State.setFe_ports (x : FrontEnd) : (s.setFe x).ports = s.ports := rfl
@[simp] theorem State.setFe_log (x : FrontEnd) : (s.setFe x).log = s.log := rfl
@[simp] theorem State.setFe_mail (x : FrontEnd) : (s.setFe x).mail = s.mail := rfl
@[simp] theorem State.setFe_slotPicks (x : FrontEnd) : (s.setFe x).slotPicks = s.slotPicks := rfl
@[simp] theorem State.setFe_pending (x : FrontEnd) : (s.setFe x).pending = s.pending := rfl
@[simp] theorem State.setFe_lane (x : FrontEnd) (l' : LaneId) : (s.setFe x).lane l' = s.lane l' := rfl
@[simp] theorem State.setFe_port (x : FrontEnd) (p' : Port) : (s.setFe x).port p' = s.port p' := rfl
@[simp] theorem State.setFe_memo (x : FrontEnd) (m' : MemoId) : (s.setFe x).memo m' = s.memo m' := rfl
@[simp] theorem State.setFe_admLane (x : FrontEnd) (l' : LaneId) : (s.setFe x).admLane l' = s.admLane l' := rfl
@[simp] theorem State.setFe_admPort (x : FrontEnd) (p' : Port) : (s.setFe x).admPort p' = s.admPort p' := rfl
@[simp] theorem State.setFe_queue (x : FrontEnd) (p' : Port) : (s.setFe x).queue p' = s.queue p' := rfl
@[simp] theorem State.setFe_slot (x : FrontEnd) (i' : SlotId) : (s.setFe x).slot i' = s.slot i' := rfl
@[simp] theorem State.setFe_quota (x : FrontEnd) (p' : Port) : (s.setFe x).quota p' = s.quota p' := rfl
@[simp] theorem State.setFe_entry (x : FrontEnd) (y : PlanIndex) : (s.setFe x).entry y = s.entry y := rfl
@[simp] theorem State.setFe_sub (x : FrontEnd) (p' : Port) (i' : SubId) : (s.setFe x).sub p' i' = s.sub p' i' := rfl

/-! ### setStore -/

@[simp] theorem State.setStore_now (x : MemoStore) : (s.setStore x).now = s.now := rfl
@[simp] theorem State.setStore_plan (x : MemoStore) : (s.setStore x).plan = s.plan := rfl
@[simp] theorem State.setStore_fe (x : MemoStore) : (s.setStore x).fe = s.fe := rfl
@[simp] theorem State.setStore_lanes (x : MemoStore) : (s.setStore x).lanes = s.lanes := rfl
@[simp] theorem State.setStore_store (x : MemoStore) : (s.setStore x).store = x := rfl
@[simp] theorem State.setStore_adm (x : MemoStore) : (s.setStore x).adm = s.adm := rfl
@[simp] theorem State.setStore_pool (x : MemoStore) : (s.setStore x).pool = s.pool := rfl
@[simp] theorem State.setStore_ports (x : MemoStore) : (s.setStore x).ports = s.ports := rfl
@[simp] theorem State.setStore_log (x : MemoStore) : (s.setStore x).log = s.log := rfl
@[simp] theorem State.setStore_mail (x : MemoStore) : (s.setStore x).mail = s.mail := rfl
@[simp] theorem State.setStore_slotPicks (x : MemoStore) : (s.setStore x).slotPicks = s.slotPicks := rfl
@[simp] theorem State.setStore_pending (x : MemoStore) : (s.setStore x).pending = s.pending := rfl
@[simp] theorem State.setStore_lane (x : MemoStore) (l' : LaneId) : (s.setStore x).lane l' = s.lane l' := rfl
@[simp] theorem State.setStore_port (x : MemoStore) (p' : Port) : (s.setStore x).port p' = s.port p' := rfl
@[simp] theorem State.setStore_admLane (x : MemoStore) (l' : LaneId) : (s.setStore x).admLane l' = s.admLane l' := rfl
@[simp] theorem State.setStore_admPort (x : MemoStore) (p' : Port) : (s.setStore x).admPort p' = s.admPort p' := rfl
@[simp] theorem State.setStore_queue (x : MemoStore) (p' : Port) : (s.setStore x).queue p' = s.queue p' := rfl
@[simp] theorem State.setStore_slot (x : MemoStore) (i' : SlotId) : (s.setStore x).slot i' = s.slot i' := rfl
@[simp] theorem State.setStore_quota (x : MemoStore) (p' : Port) : (s.setStore x).quota p' = s.quota p' := rfl
@[simp] theorem State.setStore_entry (x : MemoStore) (y : PlanIndex) : (s.setStore x).entry y = s.entry y := rfl
@[simp] theorem State.setStore_sub (x : MemoStore) (p' : Port) (i' : SubId) : (s.setStore x).sub p' i' = s.sub p' i' := rfl

/-! ### setAdm -/

@[simp] theorem State.setAdm_now (x : Admission) : (s.setAdm x).now = s.now := rfl
@[simp] theorem State.setAdm_plan (x : Admission) : (s.setAdm x).plan = s.plan := rfl
@[simp] theorem State.setAdm_fe (x : Admission) : (s.setAdm x).fe = s.fe := rfl
@[simp] theorem State.setAdm_lanes (x : Admission) : (s.setAdm x).lanes = s.lanes := rfl
@[simp] theorem State.setAdm_store (x : Admission) : (s.setAdm x).store = s.store := rfl
@[simp] theorem State.setAdm_adm (x : Admission) : (s.setAdm x).adm = x := rfl
@[simp] theorem State.setAdm_pool (x : Admission) : (s.setAdm x).pool = s.pool := rfl
@[simp] theorem State.setAdm_ports (x : Admission) : (s.setAdm x).ports = s.ports := rfl
@[simp] theorem State.setAdm_log (x : Admission) : (s.setAdm x).log = s.log := rfl
@[simp] theorem State.setAdm_mail (x : Admission) : (s.setAdm x).mail = s.mail := rfl
@[simp] theorem State.setAdm_slotPicks (x : Admission) : (s.setAdm x).slotPicks = s.slotPicks := rfl
@[simp] theorem State.setAdm_pending (x : Admission) : (s.setAdm x).pending = s.pending := rfl
@[simp] theorem State.setAdm_lane (x : Admission) (l' : LaneId) : (s.setAdm x).lane l' = s.lane l' := rfl
@[simp] theorem State.setAdm_port (x : Admission) (p' : Port) : (s.setAdm x).port p' = s.port p' := rfl
@[simp] theorem State.setAdm_memo (x : Admission) (m' : MemoId) : (s.setAdm x).memo m' = s.memo m' := rfl
@[simp] theorem State.setAdm_queue (x : Admission) (p' : Port) : (s.setAdm x).queue p' = s.queue p' := rfl
@[simp] theorem State.setAdm_slot (x : Admission) (i' : SlotId) : (s.setAdm x).slot i' = s.slot i' := rfl
@[simp] theorem State.setAdm_quota (x : Admission) (p' : Port) : (s.setAdm x).quota p' = s.quota p' := rfl
@[simp] theorem State.setAdm_entry (x : Admission) (y : PlanIndex) : (s.setAdm x).entry y = s.entry y := rfl

/-! ### setPool -/

@[simp] theorem State.setPool_now (x : Pool) : (s.setPool x).now = s.now := rfl
@[simp] theorem State.setPool_plan (x : Pool) : (s.setPool x).plan = s.plan := rfl
@[simp] theorem State.setPool_fe (x : Pool) : (s.setPool x).fe = s.fe := rfl
@[simp] theorem State.setPool_lanes (x : Pool) : (s.setPool x).lanes = s.lanes := rfl
@[simp] theorem State.setPool_store (x : Pool) : (s.setPool x).store = s.store := rfl
@[simp] theorem State.setPool_adm (x : Pool) : (s.setPool x).adm = s.adm := rfl
@[simp] theorem State.setPool_pool (x : Pool) : (s.setPool x).pool = x := rfl
@[simp] theorem State.setPool_ports (x : Pool) : (s.setPool x).ports = s.ports := rfl
@[simp] theorem State.setPool_log (x : Pool) : (s.setPool x).log = s.log := rfl
@[simp] theorem State.setPool_mail (x : Pool) : (s.setPool x).mail = s.mail := rfl
@[simp] theorem State.setPool_slotPicks (x : Pool) : (s.setPool x).slotPicks = s.slotPicks := rfl
@[simp] theorem State.setPool_pending (x : Pool) : (s.setPool x).pending = s.pending := rfl
@[simp] theorem State.setPool_lane (x : Pool) (l' : LaneId) : (s.setPool x).lane l' = s.lane l' := rfl
@[simp] theorem State.setPool_port (x : Pool) (p' : Port) : (s.setPool x).port p' = s.port p' := rfl
@[simp] theorem State.setPool_memo (x : Pool) (m' : MemoId) : (s.setPool x).memo m' = s.memo m' := rfl
@[simp] theorem State.setPool_admLane (x : Pool) (l' : LaneId) : (s.setPool x).admLane l' = s.admLane l' := rfl
@[simp] theorem State.setPool_admPort (x : Pool) (p' : Port) : (s.setPool x).admPort p' = s.admPort p' := rfl
@[simp] theorem State.setPool_entry (x : Pool) (y : PlanIndex) : (s.setPool x).entry y = s.entry y := rfl
@[simp] theorem State.setPool_sub (x : Pool) (p' : Port) (i' : SubId) : (s.setPool x).sub p' i' = s.sub p' i' := rfl

/-! ### setLog -/

@[simp] theorem State.setLog_now (x : FaultLog) : (s.setLog x).now = s.now := rfl
@[simp] theorem State.setLog_plan (x : FaultLog) : (s.setLog x).plan = s.plan := rfl
@[simp] theorem State.setLog_fe (x : FaultLog) : (s.setLog x).fe = s.fe := rfl
@[simp] theorem State.setLog_lanes (x : FaultLog) : (s.setLog x).lanes = s.lanes := rfl
@[simp] theorem State.setLog_store (x : FaultLog) : (s.setLog x).store = s.store := rfl
@[simp] theorem State.setLog_adm (x : FaultLog) : (s.setLog x).adm = s.adm := rfl
@[simp] theorem State.setLog_pool (x : FaultLog) : (s.setLog x).pool = s.pool := rfl
@[simp] theorem State.setLog_ports (x : FaultLog) : (s.setLog x).ports = s.ports := rfl
@[simp] theorem State.setLog_log (x : FaultLog) : (s.setLog x).log = x := rfl
@[simp] theorem State.setLog_mail (x : FaultLog) : (s.setLog x).mail = s.mail := rfl
@[simp] theorem State.setLog_slotPicks (x : FaultLog) : (s.setLog x).slotPicks = s.slotPicks := rfl
@[simp] theorem State.setLog_pending (x : FaultLog) : (s.setLog x).pending = s.pending := rfl
@[simp] theorem State.setLog_lane (x : FaultLog) (l' : LaneId) : (s.setLog x).lane l' = s.lane l' := rfl
@[simp] theorem State.setLog_port (x : FaultLog) (p' : Port) : (s.setLog x).port p' = s.port p' := rfl
@[simp] theorem State.setLog_memo (x : FaultLog) (m' : MemoId) : (s.setLog x).memo m' = s.memo m' := rfl
@[simp] theorem State.setLog_admLane (x : FaultLog) (l' : LaneId) : (s.setLog x).admLane l' = s.admLane l' := rfl
@[simp] theorem State.setLog_admPort (x : FaultLog) (p' : Port) : (s.setLog x).admPort p' = s.admPort p' := rfl
@[simp] theorem State.setLog_queue (x : FaultLog) (p' : Port) : (s.setLog x).queue p' = s.queue p' := rfl
@[simp] theorem State.setLog_slot (x : FaultLog) (i' : SlotId) : (s.setLog x).slot i' = s.slot i' := rfl
@[simp] theorem State.setLog_quota (x : FaultLog) (p' : Port) : (s.setLog x).quota p' = s.quota p' := rfl
@[simp] theorem State.setLog_entry (x : FaultLog) (y : PlanIndex) : (s.setLog x).entry y = s.entry y := rfl
@[simp] theorem State.setLog_sub (x : FaultLog) (p' : Port) (i' : SubId) : (s.setLog x).sub p' i' = s.sub p' i' := rfl

/-! ### setMail -/

@[simp] theorem State.setMail_now (x : Mail) : (s.setMail x).now = s.now := rfl
@[simp] theorem State.setMail_plan (x : Mail) : (s.setMail x).plan = s.plan := rfl
@[simp] theorem State.setMail_fe (x : Mail) : (s.setMail x).fe = s.fe := rfl
@[simp] theorem State.setMail_lanes (x : Mail) : (s.setMail x).lanes = s.lanes := rfl
@[simp] theorem State.setMail_store (x : Mail) : (s.setMail x).store = s.store := rfl
@[simp] theorem State.setMail_adm (x : Mail) : (s.setMail x).adm = s.adm := rfl
@[simp] theorem State.setMail_pool (x : Mail) : (s.setMail x).pool = s.pool := rfl
@[simp] theorem State.setMail_ports (x : Mail) : (s.setMail x).ports = s.ports := rfl
@[simp] theorem State.setMail_log (x : Mail) : (s.setMail x).log = s.log := rfl
@[simp] theorem State.setMail_mail (x : Mail) : (s.setMail x).mail = x := rfl
@[simp] theorem State.setMail_slotPicks (x : Mail) : (s.setMail x).slotPicks = s.slotPicks := rfl
@[simp] theorem State.setMail_pending (x : Mail) : (s.setMail x).pending = s.pending := rfl
@[simp] theorem State.setMail_lane (x : Mail) (l' : LaneId) : (s.setMail x).lane l' = s.lane l' := rfl
@[simp] theorem State.setMail_port (x : Mail) (p' : Port) : (s.setMail x).port p' = s.port p' := rfl
@[simp] theorem State.setMail_memo (x : Mail) (m' : MemoId) : (s.setMail x).memo m' = s.memo m' := rfl
@[simp] theorem State.setMail_admLane (x : Mail) (l' : LaneId) : (s.setMail x).admLane l' = s.admLane l' := rfl
@[simp] theorem State.setMail_admPort (x : Mail) (p' : Port) : (s.setMail x).admPort p' = s.admPort p' := rfl
@[simp] theorem State.setMail_queue (x : Mail) (p' : Port) : (s.setMail x).queue p' = s.queue p' := rfl
@[simp] theorem State.setMail_slot (x : Mail) (i' : SlotId) : (s.setMail x).slot i' = s.slot i' := rfl
@[simp] theorem State.setMail_quota (x : Mail) (p' : Port) : (s.setMail x).quota p' = s.quota p' := rfl
@[simp] theorem State.setMail_entry (x : Mail) (y : PlanIndex) : (s.setMail x).entry y = s.entry y := rfl
@[simp] theorem State.setMail_sub (x : Mail) (p' : Port) (i' : SubId) : (s.setMail x).sub p' i' = s.sub p' i' := rfl

/-! ### setLane -/

@[simp] theorem State.setLane_now (l : LaneId) (x : Lane) : (s.setLane l x).now = s.now := rfl
@[simp] theorem State.setLane_plan (l : LaneId) (x : Lane) : (s.setLane l x).plan = s.plan := rfl
@[simp] theorem State.setLane_fe (l : LaneId) (x : Lane) : (s.setLane l x).fe = s.fe := rfl
theorem State.setLane_lanes (l : LaneId) (x : Lane) : (s.setLane l x).lanes =
    Tab.put s.lanes l x := rfl
@[simp] theorem State.setLane_store (l : LaneId) (x : Lane) : (s.setLane l x).store = s.store := rfl
@[simp] theorem State.setLane_adm (l : LaneId) (x : Lane) : (s.setLane l x).adm = s.adm := rfl
@[simp] theorem State.setLane_pool (l : LaneId) (x : Lane) : (s.setLane l x).pool = s.pool := rfl
@[simp] theorem State.setLane_ports (l : LaneId) (x : Lane) : (s.setLane l x).ports = s.ports := rfl
@[simp] theorem State.setLane_log (l : LaneId) (x : Lane) : (s.setLane l x).log = s.log := rfl
@[simp] theorem State.setLane_mail (l : LaneId) (x : Lane) : (s.setLane l x).mail = s.mail := rfl
@[simp] theorem State.setLane_slotPicks (l : LaneId) (x : Lane) : (s.setLane l x).slotPicks = s.slotPicks := rfl
@[simp] theorem State.setLane_pending (l : LaneId) (x : Lane) : (s.setLane l x).pending = s.pending := rfl
@[simp] theorem State.setLane_port (l : LaneId) (x : Lane) (p' : Port) : (s.setLane l x).port p' = s.port p' := rfl
@[simp] theorem State.setLane_memo (l : LaneId) (x : Lane) (m' : MemoId) : (s.setLane l x).memo m' = s.memo m' := rfl
@[simp] theorem State.setLane_admLane (l : LaneId) (x : Lane) (l' : LaneId) : (s.setLane l x).admLane l' = s.admLane l' := rfl
@[simp] theorem State.setLane_admPort (l : LaneId) (x : Lane) (p' : Port) : (s.setLane l x).admPort p' = s.admPort p' := rfl
@[simp] theorem State.setLane_queue (l : LaneId) (x : Lane) (p' : Port) : (s.setLane l x).queue p' = s.queue p' := rfl
@[simp] theorem State.setLane_slot (l : LaneId) (x : Lane) (i' : SlotId) : (s.setLane l x).slot i' = s.slot i' := rfl
@[simp] theorem State.setLane_quota (l : LaneId) (x : Lane) (p' : Port) : (s.setLane l x).quota p' = s.quota p' := rfl
@[simp] theorem State.setLane_entry (l : LaneId) (x : Lane) (y : PlanIndex) : (s.setLane l x).entry y = s.entry y := rfl
@[simp] theorem State.setLane_sub (l : LaneId) (x : Lane) (p' : Port) (i' : SubId) : (s.setLane l x).sub p' i' = s.sub p' i' := rfl

/-! ### setPort -/

@[simp] theorem State.setPort_now (p : Port) (x : PortRec) : (s.setPort p x).now = s.now := rfl
@[simp] theorem State.setPort_plan (p : Port) (x : PortRec) : (s.setPort p x).plan = s.plan := rfl
@[simp] theorem State.setPort_fe (p : Port) (x : PortRec) : (s.setPort p x).fe = s.fe := rfl
@[simp] theorem State.setPort_lanes (p : Port) (x : PortRec) : (s.setPort p x).lanes = s.lanes := rfl
@[simp] theorem State.setPort_store (p : Port) (x : PortRec) : (s.setPort p x).store = s.store := rfl
@[simp] theorem State.setPort_adm (p : Port) (x : PortRec) : (s.setPort p x).adm = s.adm := rfl
@[simp] theorem State.setPort_pool (p : Port) (x : PortRec) : (s.setPort p x).pool = s.pool := rfl
theorem State.setPort_ports (p : Port) (x : PortRec) : (s.setPort p x).ports =
    s.ports.put p x := rfl
@[simp] theorem State.setPort_log (p : Port) (x : PortRec) : (s.setPort p x).log = s.log := rfl
@[simp] theorem State.setPort_mail (p : Port) (x : PortRec) : (s.setPort p x).mail = s.mail := rfl
@[simp] theorem State.setPort_slotPicks (p : Port) (x : PortRec) : (s.setPort p x).slotPicks = s.slotPicks := rfl
@[simp] theorem State.setPort_pending (p : Port) (x : PortRec) : (s.setPort p x).pending = s.pending := rfl
@[simp] theorem State.setPort_lane (p : Port) (x : PortRec) (l' : LaneId) : (s.setPort p x).lane l' = s.lane l' := rfl
@[simp] theorem State.setPort_memo (p : Port) (x : PortRec) (m' : MemoId) : (s.setPort p x).memo m' = s.memo m' := rfl
@[simp] theorem State.setPort_admLane (p : Port) (x : PortRec) (l' : LaneId) : (s.setPort p x).admLane l' = s.admLane l' := rfl
@[simp] theorem State.setPort_admPort (p : Port) (x : PortRec) (p' : Port) : (s.setPort p x).admPort p' = s.admPort p' := rfl
@[simp] theorem State.setPort_queue (p : Port) (x : PortRec) (p' : Port) : (s.setPort p x).queue p' = s.queue p' := rfl
@[simp] theorem State.setPort_slot (p : Port) (x : PortRec) (i' : SlotId) : (s.setPort p x).slot i' = s.slot i' := rfl
@[simp] theorem State.setPort_quota (p : Port) (x : PortRec) (p' : Port) : (s.setPort p x).quota p' = s.quota p' := rfl
@[simp] theorem State.setPort_entry (p : Port) (x : PortRec) (y : PlanIndex) : (s.setPort p x).entry y = s.entry y := rfl
@[simp] theorem State.setPort_sub (p : Port) (x : PortRec) (p' : Port) (i' : SubId) : (s.setPort p x).sub p' i' = s.sub p' i' := rfl

/-! ### setMemo -/

@[simp] theorem State.setMemo_now (m : MemoId) (x : Memo) : (s.setMemo m x).now = s.now := rfl
@[simp] theorem State.setMemo_plan (m : MemoId) (x : Memo) : (s.setMemo m x).plan = s.plan := rfl
@[simp] theorem State.setMemo_fe (m : MemoId) (x : Memo) : (s.setMemo m x).fe = s.fe := rfl
@[simp] theorem State.setMemo_lanes (m : MemoId) (x : Memo) : (s.setMemo m x).lanes = s.lanes := rfl
theorem State.setMemo_store (m : MemoId) (x : Memo) : (s.setMemo m x).store =
    { s.store with memos := Tab.put s.store.memos m x } := rfl
@[simp] theorem State.setMemo_adm (m : MemoId) (x : Memo) : (s.setMemo m x).adm = s.adm := rfl
@[simp] theorem State.setMemo_pool (m : MemoId) (x : Memo) : (s.setMemo m x).pool = s.pool := rfl
@[simp] theorem State.setMemo_ports (m : MemoId) (x : Memo) : (s.setMemo m x).ports = s.ports := rfl
@[simp] theorem State.setMemo_log (m : MemoId) (x : Memo) : (s.setMemo m x).log = s.log := rfl
@[simp] theorem State.setMemo_mail (m : MemoId) (x : Memo) : (s.setMemo m x).mail = s.mail := rfl
@[simp] theorem State.setMemo_slotPicks (m : MemoId) (x : Memo) : (s.setMemo m x).slotPicks = s.slotPicks := rfl
@[simp] theorem State.setMemo_pending (m : MemoId) (x : Memo) : (s.setMemo m x).pending = s.pending := rfl
@[simp] theorem State.setMemo_lane (m : MemoId) (x : Memo) (l' : LaneId) : (s.setMemo m x).lane l' = s.lane l' := rfl
@[simp] theorem State.setMemo_port (m : MemoId) (x : Memo) (p' : Port) : (s.setMemo m x).port p' = s.port p' := rfl
@[simp] theorem State.setMemo_admLane (m : MemoId) (x : Memo) (l' : LaneId) : (s.setMemo m x).admLane l' = s.admLane l' := rfl
@[simp] theorem State.setMemo_admPort (m : MemoId) (x : Memo) (p' : Port) : (s.setMemo m x).admPort p' = s.admPort p' := rfl
@[simp] theorem State.setMemo_queue (m : MemoId) (x : Memo) (p' : Port) : (s.setMemo m x).queue p' = s.queue p' := rfl
@[simp] theorem State.setMemo_slot (m : MemoId) (x : Memo) (i' : SlotId) : (s.setMemo m x).slot i' = s.slot i' := rfl
@[simp] theorem State.setMemo_quota (m : MemoId) (x : Memo) (p' : Port) : (s.setMemo m x).quota p' = s.quota p' := rfl
@[simp] theorem State.setMemo_entry (m : MemoId) (x : Memo) (y : PlanIndex) : (s.setMemo m x).entry y = s.entry y := rfl
@[simp] theorem State.setMemo_sub (m : MemoId) (x : Memo) (p' : Port) (i' : SubId) : (s.setMemo m x).sub p' i' = s.sub p' i' := rfl

/-! ### setAdmLane -/

@[simp] theorem State.setAdmLane_now (l : LaneId) (x : AdmLane) : (s.setAdmLane l x).now = s.now := rfl
@[simp] theorem State.setAdmLane_plan (l : LaneId) (x : AdmLane) : (s.setAdmLane l x).plan = s.plan := rfl
@[simp] theorem State.setAdmLane_fe (l : LaneId) (x : AdmLane) : (s.setAdmLane l x).fe = s.fe := rfl
@[simp] theorem State.setAdmLane_lanes (l : LaneId) (x : AdmLane) : (s.setAdmLane l x).lanes = s.lanes := rfl
@[simp] theorem State.setAdmLane_store (l : LaneId) (x : AdmLane) : (s.setAdmLane l x).store = s.store := rfl
theorem State.setAdmLane_adm (l : LaneId) (x : AdmLane) : (s.setAdmLane l x).adm =
    { s.adm with lanes := Tab.put s.adm.lanes l x } := rfl
@[simp] theorem State.setAdmLane_pool (l : LaneId) (x : AdmLane) : (s.setAdmLane l x).pool = s.pool := rfl
@[simp] theorem State.setAdmLane_ports (l : LaneId) (x : AdmLane) : (s.setAdmLane l x).ports = s.ports := rfl
@[simp] theorem State.setAdmLane_log (l : LaneId) (x : AdmLane) : (s.setAdmLane l x).log = s.log := rfl
@[simp] theorem State.setAdmLane_mail (l : LaneId) (x : AdmLane) : (s.setAdmLane l x).mail = s.mail := rfl
@[simp] theorem State.setAdmLane_slotPicks (l : LaneId) (x : AdmLane) : (s.setAdmLane l x).slotPicks = s.slotPicks := rfl
@[simp] theorem State.setAdmLane_pending (l : LaneId) (x : AdmLane) : (s.setAdmLane l x).pending = s.pending := rfl
@[simp] theorem State.setAdmLane_lane (l : LaneId) (x : AdmLane) (l' : LaneId) : (s.setAdmLane l x).lane l' = s.lane l' := rfl
@[simp] theorem State.setAdmLane_port (l : LaneId) (x : AdmLane) (p' : Port) : (s.setAdmLane l x).port p' = s.port p' := rfl
@[simp] theorem State.setAdmLane_memo (l : LaneId) (x : AdmLane) (m' : MemoId) : (s.setAdmLane l x).memo m' = s.memo m' := rfl
@[simp] theorem State.setAdmLane_queue (l : LaneId) (x : AdmLane) (p' : Port) : (s.setAdmLane l x).queue p' = s.queue p' := rfl
@[simp] theorem State.setAdmLane_slot (l : LaneId) (x : AdmLane) (i' : SlotId) : (s.setAdmLane l x).slot i' = s.slot i' := rfl
@[simp] theorem State.setAdmLane_quota (l : LaneId) (x : AdmLane) (p' : Port) : (s.setAdmLane l x).quota p' = s.quota p' := rfl
@[simp] theorem State.setAdmLane_entry (l : LaneId) (x : AdmLane) (y : PlanIndex) : (s.setAdmLane l x).entry y = s.entry y := rfl

/-! ### setAdmPort -/

@[simp] theorem State.setAdmPort_now (p : Port) (x : AdmPort) : (s.setAdmPort p x).now = s.now := rfl
@[simp] theorem State.setAdmPort_plan (p : Port) (x : AdmPort) : (s.setAdmPort p x).plan = s.plan := rfl
@[simp] theorem State.setAdmPort_fe (p : Port) (x : AdmPort) : (s.setAdmPort p x).fe = s.fe := rfl
@[simp] theorem State.setAdmPort_lanes (p : Port) (x : AdmPort) : (s.setAdmPort p x).lanes = s.lanes := rfl
@[simp] theorem State.setAdmPort_store (p : Port) (x : AdmPort) : (s.setAdmPort p x).store = s.store := rfl
theorem State.setAdmPort_adm (p : Port) (x : AdmPort) : (s.setAdmPort p x).adm =
    { s.adm with ports := s.adm.ports.put p x } := rfl
@[simp] theorem State.setAdmPort_pool (p : Port) (x : AdmPort) : (s.setAdmPort p x).pool = s.pool := rfl
@[simp] theorem State.setAdmPort_ports (p : Port) (x : AdmPort) : (s.setAdmPort p x).ports = s.ports := rfl
@[simp] theorem State.setAdmPort_log (p : Port) (x : AdmPort) : (s.setAdmPort p x).log = s.log := rfl
@[simp] theorem State.setAdmPort_mail (p : Port) (x : AdmPort) : (s.setAdmPort p x).mail = s.mail := rfl
@[simp] theorem State.setAdmPort_slotPicks (p : Port) (x : AdmPort) : (s.setAdmPort p x).slotPicks = s.slotPicks := rfl
@[simp] theorem State.setAdmPort_pending (p : Port) (x : AdmPort) : (s.setAdmPort p x).pending = s.pending := rfl
@[simp] theorem State.setAdmPort_lane (p : Port) (x : AdmPort) (l' : LaneId) : (s.setAdmPort p x).lane l' = s.lane l' := rfl
@[simp] theorem State.setAdmPort_port (p : Port) (x : AdmPort) (p' : Port) : (s.setAdmPort p x).port p' = s.port p' := rfl
@[simp] theorem State.setAdmPort_memo (p : Port) (x : AdmPort) (m' : MemoId) : (s.setAdmPort p x).memo m' = s.memo m' := rfl
@[simp] theorem State.setAdmPort_queue (p : Port) (x : AdmPort) (p' : Port) : (s.setAdmPort p x).queue p' = s.queue p' := rfl
@[simp] theorem State.setAdmPort_slot (p : Port) (x : AdmPort) (i' : SlotId) : (s.setAdmPort p x).slot i' = s.slot i' := rfl
@[simp] theorem State.setAdmPort_quota (p : Port) (x : AdmPort) (p' : Port) : (s.setAdmPort p x).quota p' = s.quota p' := rfl
@[simp] theorem State.setAdmPort_entry (p : Port) (x : AdmPort) (y : PlanIndex) : (s.setAdmPort p x).entry y = s.entry y := rfl

/-! ### setSub -/

@[simp] theorem State.setSub_now (p : Port) (i : SubId) (x : Option Sub) : (s.setSub p i x).now = s.now := rfl
@[simp] theorem State.setSub_plan (p : Port) (i : SubId) (x : Option Sub) : (s.setSub p i x).plan = s.plan := rfl
@[simp] theorem State.setSub_fe (p : Port) (i : SubId) (x : Option Sub) : (s.setSub p i x).fe = s.fe := rfl
@[simp] theorem State.setSub_lanes (p : Port) (i : SubId) (x : Option Sub) : (s.setSub p i x).lanes = s.lanes := rfl
@[simp] theorem State.setSub_store (p : Port) (i : SubId) (x : Option Sub) : (s.setSub p i x).store = s.store := rfl
theorem State.setSub_adm (p : Port) (i : SubId) (x : Option Sub) : (s.setSub p i x).adm =
    { s.adm with ports := s.adm.ports.put p { s.admPort p with subs := Tab.put (s.admPort p).subs i x } } := rfl
@[simp] theorem State.setSub_pool (p : Port) (i : SubId) (x : Option Sub) : (s.setSub p i x).pool = s.pool := rfl
@[simp] theorem State.setSub_ports (p : Port) (i : SubId) (x : Option Sub) : (s.setSub p i x).ports = s.ports := rfl
@[simp] theorem State.setSub_log (p : Port) (i : SubId) (x : Option Sub) : (s.setSub p i x).log = s.log := rfl
@[simp] theorem State.setSub_mail (p : Port) (i : SubId) (x : Option Sub) : (s.setSub p i x).mail = s.mail := rfl
@[simp] theorem State.setSub_slotPicks (p : Port) (i : SubId) (x : Option Sub) : (s.setSub p i x).slotPicks = s.slotPicks := rfl
@[simp] theorem State.setSub_pending (p : Port) (i : SubId) (x : Option Sub) : (s.setSub p i x).pending = s.pending := rfl
@[simp] theorem State.setSub_lane (p : Port) (i : SubId) (x : Option Sub) (l' : LaneId) : (s.setSub p i x).lane l' = s.lane l' := rfl
@[simp] theorem State.setSub_port (p : Port) (i : SubId) (x : Option Sub) (p' : Port) : (s.setSub p i x).port p' = s.port p' := rfl
@[simp] theorem State.setSub_memo (p : Port) (i : SubId) (x : Option Sub) (m' : MemoId) : (s.setSub p i x).memo m' = s.memo m' := rfl
@[simp] theorem State.setSub_queue (p : Port) (i : SubId) (x : Option Sub) (p' : Port) : (s.setSub p i x).queue p' = s.queue p' := rfl
@[simp] theorem State.setSub_slot (p : Port) (i : SubId) (x : Option Sub) (i' : SlotId) : (s.setSub p i x).slot i' = s.slot i' := rfl
@[simp] theorem State.setSub_quota (p : Port) (i : SubId) (x : Option Sub) (p' : Port) : (s.setSub p i x).quota p' = s.quota p' := rfl
@[simp] theorem State.setSub_entry (p : Port) (i : SubId) (x : Option Sub) (y : PlanIndex) : (s.setSub p i x).entry y = s.entry y := rfl

/-! ### setQueue -/

@[simp] theorem State.setQueue_now (p : Port) (q : List Entry) : (s.setQueue p q).now = s.now := rfl
@[simp] theorem State.setQueue_plan (p : Port) (q : List Entry) : (s.setQueue p q).plan = s.plan := rfl
@[simp] theorem State.setQueue_fe (p : Port) (q : List Entry) : (s.setQueue p q).fe = s.fe := rfl
@[simp] theorem State.setQueue_lanes (p : Port) (q : List Entry) : (s.setQueue p q).lanes = s.lanes := rfl
@[simp] theorem State.setQueue_store (p : Port) (q : List Entry) : (s.setQueue p q).store = s.store := rfl
@[simp] theorem State.setQueue_adm (p : Port) (q : List Entry) : (s.setQueue p q).adm = s.adm := rfl
theorem State.setQueue_pool (p : Port) (q : List Entry) : (s.setQueue p q).pool =
    { s.pool with queues := s.pool.queues.put p q } := rfl
@[simp] theorem State.setQueue_ports (p : Port) (q : List Entry) : (s.setQueue p q).ports = s.ports := rfl
@[simp] theorem State.setQueue_log (p : Port) (q : List Entry) : (s.setQueue p q).log = s.log := rfl
@[simp] theorem State.setQueue_mail (p : Port) (q : List Entry) : (s.setQueue p q).mail = s.mail := rfl
@[simp] theorem State.setQueue_slotPicks (p : Port) (q : List Entry) : (s.setQueue p q).slotPicks = s.slotPicks := rfl
@[simp] theorem State.setQueue_pending (p : Port) (q : List Entry) : (s.setQueue p q).pending = s.pending := rfl
@[simp] theorem State.setQueue_lane (p : Port) (q : List Entry) (l' : LaneId) : (s.setQueue p q).lane l' = s.lane l' := rfl
@[simp] theorem State.setQueue_port (p : Port) (q : List Entry) (p' : Port) : (s.setQueue p q).port p' = s.port p' := rfl
@[simp] theorem State.setQueue_memo (p : Port) (q : List Entry) (m' : MemoId) : (s.setQueue p q).memo m' = s.memo m' := rfl
@[simp] theorem State.setQueue_admLane (p : Port) (q : List Entry) (l' : LaneId) : (s.setQueue p q).admLane l' = s.admLane l' := rfl
@[simp] theorem State.setQueue_admPort (p : Port) (q : List Entry) (p' : Port) : (s.setQueue p q).admPort p' = s.admPort p' := rfl
@[simp] theorem State.setQueue_entry (p : Port) (q : List Entry) (y : PlanIndex) : (s.setQueue p q).entry y = s.entry y := rfl
@[simp] theorem State.setQueue_sub (p : Port) (q : List Entry) (p' : Port) (i' : SubId) : (s.setQueue p q).sub p' i' = s.sub p' i' := rfl

/-! ### setSlot -/

@[simp] theorem State.setSlot_now (i : SlotId) (x : Option Slot) : (s.setSlot i x).now = s.now := rfl
@[simp] theorem State.setSlot_plan (i : SlotId) (x : Option Slot) : (s.setSlot i x).plan = s.plan := rfl
@[simp] theorem State.setSlot_fe (i : SlotId) (x : Option Slot) : (s.setSlot i x).fe = s.fe := rfl
@[simp] theorem State.setSlot_lanes (i : SlotId) (x : Option Slot) : (s.setSlot i x).lanes = s.lanes := rfl
@[simp] theorem State.setSlot_store (i : SlotId) (x : Option Slot) : (s.setSlot i x).store = s.store := rfl
@[simp] theorem State.setSlot_adm (i : SlotId) (x : Option Slot) : (s.setSlot i x).adm = s.adm := rfl
theorem State.setSlot_pool (i : SlotId) (x : Option Slot) : (s.setSlot i x).pool =
    { s.pool with slots := Tab.put s.pool.slots i x } := rfl
@[simp] theorem State.setSlot_ports (i : SlotId) (x : Option Slot) : (s.setSlot i x).ports = s.ports := rfl
@[simp] theorem State.setSlot_log (i : SlotId) (x : Option Slot) : (s.setSlot i x).log = s.log := rfl
@[simp] theorem State.setSlot_mail (i : SlotId) (x : Option Slot) : (s.setSlot i x).mail = s.mail := rfl
@[simp] theorem State.setSlot_slotPicks (i : SlotId) (x : Option Slot) : (s.setSlot i x).slotPicks = s.slotPicks := rfl
@[simp] theorem State.setSlot_pending (i : SlotId) (x : Option Slot) : (s.setSlot i x).pending = s.pending := rfl
@[simp] theorem State.setSlot_lane (i : SlotId) (x : Option Slot) (l' : LaneId) : (s.setSlot i x).lane l' = s.lane l' := rfl
@[simp] theorem State.setSlot_port (i : SlotId) (x : Option Slot) (p' : Port) : (s.setSlot i x).port p' = s.port p' := rfl
@[simp] theorem State.setSlot_memo (i : SlotId) (x : Option Slot) (m' : MemoId) : (s.setSlot i x).memo m' = s.memo m' := rfl
@[simp] theorem State.setSlot_admLane (i : SlotId) (x : Option Slot) (l' : LaneId) : (s.setSlot i x).admLane l' = s.admLane l' := rfl
@[simp] theorem State.setSlot_admPort (i : SlotId) (x : Option Slot) (p' : Port) : (s.setSlot i x).admPort p' = s.admPort p' := rfl
@[simp] theorem State.setSlot_entry (i : SlotId) (x : Option Slot) (y : PlanIndex) : (s.setSlot i x).entry y = s.entry y := rfl
@[simp] theorem State.setSlot_sub (i : SlotId) (x : Option Slot) (p' : Port) (i' : SubId) : (s.setSlot i x).sub p' i' = s.sub p' i' := rfl

/-! ### Reading what was put -/

@[simp] theorem State.setLane_lane (l k : LaneId) (x : Lane) : (s.setLane l x).lane k = if l = k then x else s.lane k := by
  simp [State.lane, State.setLane]

@[simp] theorem State.setPort_port (p q : Port) (x : PortRec) : (s.setPort p x).port q = if p = q then x else s.port q := by
  simp [State.port, State.setPort]

@[simp] theorem State.setMemo_memo (m k : MemoId) (x : Memo) : (s.setMemo m x).memo k = if m = k then x else s.memo k := by
  simp [State.memo, State.setMemo]

@[simp] theorem State.setMemo_order (m : MemoId) (x : Memo) : (s.setMemo m x).store.order = s.store.order := rfl

@[simp] theorem State.setMemo_inUse (m : MemoId) (x : Memo) : (s.setMemo m x).store.inUse = s.store.inUse := rfl

@[simp] theorem State.setAdmLane_admLane (l k : LaneId) (x : AdmLane) :
    (s.setAdmLane l x).admLane k = if l = k then x else s.admLane k := by
  simp [State.admLane, State.setAdmLane]

@[simp] theorem State.setAdmLane_admPort (l : LaneId) (x : AdmLane) (p : Port) :
    (s.setAdmLane l x).admPort p = s.admPort p := rfl

@[simp] theorem State.setAdmLane_sub (l : LaneId) (x : AdmLane) (p : Port) (i : SubId) :
    (s.setAdmLane l x).sub p i = s.sub p i := rfl

@[simp] theorem State.setAdmPort_admPort (p q : Port) (x : AdmPort) :
    (s.setAdmPort p x).admPort q = if p = q then x else s.admPort q := by
  simp [State.admPort, State.setAdmPort]

@[simp] theorem State.setAdmPort_admLane (p : Port) (x : AdmPort) (l : LaneId) :
    (s.setAdmPort p x).admLane l = s.admLane l := rfl

@[simp] theorem State.setSub_admLane (p : Port) (i : SubId) (x : Option Sub) (l : LaneId) :
    (s.setSub p i x).admLane l = s.admLane l := rfl

theorem State.setSub_admPort (p q : Port) (i : SubId) (x : Option Sub) :
    (s.setSub p i x).admPort q =
      if p = q then { s.admPort p with subs := Tab.put (s.admPort p).subs i x } else s.admPort q := by
  simp [State.setSub]

@[simp] theorem State.setSub_sub (p q : Port) (i j : SubId) (x : Option Sub) :
    (s.setSub p i x).sub q j = if p = q ∧ i = j then x else s.sub q j := by
  simp only [State.sub, State.setSub_admPort]
  by_cases h : p = q
  · subst h
    simp
  · simp [h]

@[simp] theorem State.setQueue_queue (p q : Port) (x : List Entry) :
    (s.setQueue p x).queue q = if p = q then x else s.queue q := by
  simp [State.queue, State.setQueue]

@[simp] theorem State.setQueue_slot (p : Port) (x : List Entry) (i : SlotId) : (s.setQueue p x).slot i = s.slot i := rfl

@[simp] theorem State.setQueue_quota (p q : Port) (x : List Entry) : (s.setQueue p x).quota q = s.quota q := rfl

@[simp] theorem State.setSlot_slot (i j : SlotId) (x : Option Slot) :
    (s.setSlot i x).slot j = if i = j then x else s.slot j := by
  simp [State.slot, State.setSlot]

@[simp] theorem State.setSlot_queue (i : SlotId) (x : Option Slot) (p : Port) : (s.setSlot i x).queue p = s.queue p := rfl

@[simp] theorem State.setSlot_quota (i : SlotId) (x : Option Slot) (p : Port) : (s.setSlot i x).quota p = s.quota p := rfl

@[simp] theorem State.setLane_setLane (l : LaneId) (x y : Lane) : (s.setLane l x).setLane l y = s.setLane l y := by
  simp [State.setLane]

@[simp] theorem State.setPort_setPort (p : Port) (x y : PortRec) : (s.setPort p x).setPort p y = s.setPort p y := by
  simp [State.setPort]

@[simp] theorem State.setLane_self (l : LaneId) : s.setLane l (s.lane l) = s := by simp [State.setLane, State.lane]

@[simp] theorem State.setPort_self (p : Port) : s.setPort p (s.port p) = s := by simp [State.setPort, State.port]

@[simp] theorem State.setFe_setFe (x y : FrontEnd) : (s.setFe x).setFe y = s.setFe y := rfl

@[simp] theorem State.setMail_setMail (x y : Mail) : (s.setMail x).setMail y = s.setMail y := rfl

end Machine

end Sys2Proof
end

