-- ==== Sys2Proof/Laws/Ops.lean ====
section
/-! SUPPORT. One lemma for each shared operation of Machine/Ops.lean that says all it can do, and what follows for the
ports when a command ends (R170 to R175). -/

namespace Sys2Proof.Machine

variable (s : State)

/-! ## Messages -/

@[simp] theorem report_eq (o : Occurrence) :
    report o s = s.setMail { s.mail with toLog := s.mail.toLog ++ [o] } := rfl

@[simp] theorem tellAdmission_eq (m : AdmMsg) :
    tellAdmission m s = s.setMail { s.mail with toAdm := s.mail.toAdm ++ [m] } := rfl

@[simp] theorem tellStore_eq (l : LaneId) (m : StoreMsg) :
    tellStore l m s = s.setMail { s.mail with toStore := Tab.put s.mail.toStore l (s.mail.toStore.get l ++ [m]) } := rfl

@[simp] theorem answerLane_eq (l : LaneId) (m : LaneMsg) :
    answerLane l m s = s.setMail { s.mail with toLane := Tab.put s.mail.toLane l (s.mail.toLane.get l ++ [m]) } := rfl

/-! ## The output arbiter (R175) -/

/-- What the output arbiter makes of a port's record, given the port's output queue. -/
def PortRec.arbitrated (r : PortRec) (queue : List Entry) : PortRec :=
  if r.link = .attached ∧ r.downlink = .idle then
    match r.responses, r.notices, queue with
    | _ :: _, _, _ => { r with downlink := .response }
    | [], n :: rest, _ => { r with downlink := .notice n, notices := rest }
    | [], [], _ :: _ => { r with downlink := .packet }
    | [], [], [] => r
  else r

/-- The output arbiter changes the record of its port and nothing else. -/
theorem arbitrate_eq (p : Port) : arbitrate p s = s.setPort p ((s.port p).arbitrated (s.queue p)) := by
  unfold arbitrate PortRec.arbitrated
  by_cases c : (s.port p).link = .attached ∧ (s.port p).downlink = .idle
  · simp only [if_pos c]
    split <;> simp_all
  · simp only [if_neg c, State.setPort_self]

/-- A command's end changes the ports' records and nothing else. -/
theorem settle_eq :
    settle s = { s with ports := {
      a := s.ports.a.arbitrated (s.queue .a)
      b := s.ports.b.arbitrated (s.queue .b)
      c := s.ports.c.arbitrated (s.queue .c)
      d := s.ports.d.arbitrated (s.queue .d) } } := by
  simp only [settle, forEach, Port.all, List.foldl, arbitrate_eq]
  rfl

@[simp] theorem settle_port (p : Port) : (settle s).port p = (s.port p).arbitrated (s.queue p) := by
  rw [settle_eq]
  cases p <;> rfl

@[simp] theorem settle_now : (settle s).now = s.now := by rw [settle_eq]
@[simp] theorem settle_plan : (settle s).plan = s.plan := by rw [settle_eq]
@[simp] theorem settle_fe : (settle s).fe = s.fe := by rw [settle_eq]
@[simp] theorem settle_lanes : (settle s).lanes = s.lanes := by rw [settle_eq]
@[simp] theorem settle_store : (settle s).store = s.store := by rw [settle_eq]
@[simp] theorem settle_adm : (settle s).adm = s.adm := by rw [settle_eq]
@[simp] theorem settle_pool : (settle s).pool = s.pool := by rw [settle_eq]
@[simp] theorem settle_log : (settle s).log = s.log := by rw [settle_eq]
@[simp] theorem settle_mail : (settle s).mail = s.mail := by rw [settle_eq]
@[simp] theorem settle_slotPicks : (settle s).slotPicks = s.slotPicks := by rw [settle_eq]
@[simp] theorem settle_pending : (settle s).pending = s.pending := by rw [settle_eq]

/-- The ports after a command's end, given record by record. -/
theorem settle_ports (ports : PerPort PortRec) (h : ∀ p, (s.port p).arbitrated (s.queue p) = ports.get p) :
    settle s = { s with ports } := by
  rw [settle_eq]
  have e : ports = { a := ports.get .a, b := ports.get .b, c := ports.get .c, d := ports.get .d } := rfl
  rw [e, ← h .a, ← h .b, ← h .c, ← h .d]
  rfl

/-- A settled port's record is left as it is. -/
theorem arbitrated_settled (h : s.Settled) (p : Port) : (s.port p).arbitrated (s.queue p) = s.port p := by
  unfold PortRec.arbitrated
  split
  · next c => obtain ⟨hr, hn, hq⟩ := h p c.1 c.2; simp [hr, hn, hq]
  · rfl

/-- A settled state is left as it is. -/
theorem settle_settled (h : s.Settled) : settle s = s :=
  settle_ports s s.ports (fun p => arbitrated_settled s h p)

/-- After a command's end the downlinks are settled, whatever they were before. -/
theorem settled_settle : (settle s).Settled := by
  intro p hl hd
  rw [settle_port] at hl hd ⊢
  have hq : (settle s).queue p = s.queue p := by rw [settle_eq]; rfl
  rw [hq]
  generalize s.port p = r at *
  generalize s.queue p = q at *
  unfold PortRec.arbitrated at hl hd ⊢
  split at hd
  · next c =>
    split at hd <;> simp_all
  · next c =>
    rw [if_neg c] at hl
    exact absurd ⟨hl, hd⟩ c

/-! ## Responses (R170, R172) -/

/-- Answering a port whose queue is not empty appends the answer to its head request. -/
theorem respond_eq (p : Port) (status : Status) (fields : List Byte) (q : Request) (rest : List Request)
    (h : (s.port p).requests = q :: rest) :
    respond p status fields s =
      s.setPort p { s.port p with
        responses := (s.port p).responses ++
          [{ busy := false, kind := responseKind q.kind, tag := q.tag, body := status.code :: fields }] } := by
  simp [respond, h, State.modPort]

/-- In a settled state, the answer to the head request of an ATTACHED port, and nothing else, is what a command that
answers leaves on the ports. -/
theorem settle_respond (h : s.Settled) (p : Port) (hl : (s.port p).link = .attached) (status : Status)
    (fields : List Byte) : settle (respond p status fields s) = { s with ports := s.answered p status fields } := by
  cases hq : (s.port p).requests with
  | nil =>
    have e : respond p status fields s = s := by simp [respond, hq]
    rw [e, settle_settled s h]
    have : s.answered p status fields = s.ports := by
      unfold State.answered PortRec.answered
      rw [hq]
      exact PerPort.put_get s.ports p
    rw [this]
  | cons q rest =>
    rw [respond_eq s p status fields q rest hq]
    have key : ∀ k, ((s.setPort p { s.port p with
        responses := (s.port p).responses ++
          [{ busy := false, kind := responseKind q.kind, tag := q.tag, body := status.code :: fields }] }).port
          k).arbitrated (s.queue k) = (s.answered p status fields).get k := by
      intro k
      unfold State.answered PortRec.answered
      rw [hq]
      by_cases e : p = k
      · subst e
        simp only [State.setPort_port, if_true, PerPort.get_put]
        unfold PortRec.arbitrated
        by_cases hd : (s.port p).downlink = .idle
        · obtain ⟨hr, hn, hqu⟩ := h p hl hd
          simp [hl, hd, hr, hq]
        · simp [hd, hq]
      · simp only [State.setPort_port, PerPort.get_put, if_neg e]
        exact arbitrated_settled s h k
    exact settle_ports _ _ key

/-! ## Notices (R173) -/

/-- A notice raised for a port changes that port's record and nothing else. -/
theorem raiseNotice_eq (n : Notice) (p : Port) :
    raiseNotice n p s =
      s.setPort p (if (s.port p).link = .attached then
        { s.port p with notices := enqueueNotice n (s.port p).notices } else s.port p) := by
  unfold raiseNotice State.modPort
  split <;> simp

end Sys2Proof.Machine
end

