-- ==== Sys2Proof/Laws/Frames.lean ====
section
/-! SUPPORT. For each shared operation, one lemma that says which parts of the state it can touch. `Touches parts s t`
says that `t` differs from `s` in the named parts at most; the lemmas compose by `Touches.trans` and `Touches.forEach`,
and `Touches.same` reads one part off. -/

namespace Sys2Proof.Machine

/-- The parts of the state. -/
inductive Part where
  | now | plan | fe | lanes | store | adm | pool | ports | log | mail | slotPicks | pending
  deriving DecidableEq, Repr

/-- A part is the same in two states. -/
def Same (s t : State) : Part → Prop
  | .now => t.now = s.now
  | .plan => t.plan = s.plan
  | .fe => t.fe = s.fe
  | .lanes => t.lanes = s.lanes
  | .store => t.store = s.store
  | .adm => t.adm = s.adm
  | .pool => t.pool = s.pool
  | .ports => t.ports = s.ports
  | .log => t.log = s.log
  | .mail => t.mail = s.mail
  | .slotPicks => t.slotPicks = s.slotPicks
  | .pending => t.pending = s.pending

/-- Two states differ in the named parts at most. -/
def Touches (parts : List Part) (s t : State) : Prop := ∀ p, p ∉ parts → Same s t p

variable {s t u : State} {parts more : List Part}

theorem Same.refl (s : State) (p : Part) : Same s s p := by cases p <;> rfl

theorem Same.trans {p : Part} (h : Same s t p) (k : Same t u p) : Same s u p := by
  cases p <;> exact Eq.trans k h

theorem Touches.same (h : Touches parts s t) (p : Part) (hp : p ∉ parts) : Same s t p := h p hp

theorem Touches.refl (parts : List Part) (s : State) : Touches parts s s := fun p _ => Same.refl s p

theorem Touches.trans (h : Touches parts s t) (k : Touches parts t u) : Touches parts s u :=
  fun p hp => (h p hp).trans (k p hp)

theorem Touches.mono (h : Touches parts s t) (sub : ∀ p ∈ parts, p ∈ more) : Touches more s t :=
  fun p hp => h p (fun hm => hp (sub p hm))

theorem Touches.ite {c : Prop} [Decidable c] (h : Touches parts s t) (k : Touches parts s u) :
    Touches parts s (if c then t else u) := by split <;> assumption

/-- An operation taken over each item of a list touches what it touches for one item. -/
theorem Touches.forEach {α : Type} {f : α → State → State} (h : ∀ x t, Touches parts t (f x t)) (items : List α)
    (s : State) : Touches parts s (forEach items f s) := by
  induction items generalizing s with
  | nil => exact Touches.refl parts s
  | cons x rest ih => exact (h x s).trans (ih (f x s))

/-- A property that each item keeps is kept by an operation taken over a list. -/
theorem forEach_keeps {α : Type} {f : α → State → State} {P : State → Prop} (items : List α)
    (h : ∀ x ∈ items, ∀ t, P t → P (f x t)) (hs : P s) : P (forEach items f s) := by
  induction items generalizing s with
  | nil => exact hs
  | cons x rest ih =>
    exact ih (fun y hy => h y (List.mem_cons_of_mem x hy)) (h x (List.mem_cons_self ..) s hs)

@[simp] theorem forEach_nil {α : Type} (f : α → State → State) (s : State) : Machine.forEach [] f s = s := rfl

@[simp] theorem forEach_cons {α : Type} (f : α → State → State) (x : α) (rest : List α) (s : State) :
    Machine.forEach (x :: rest) f s = Machine.forEach rest f (f x s) := rfl

/-! ## The updates of Machine/State.lean -/

variable (s)

theorem touches_setPlan (x : PlanBlock) : Touches [.plan] s (s.setPlan x) := by
  intro p hp; cases p <;> first | rfl | exact absurd (by decide) hp
theorem touches_setFe (x : FrontEnd) : Touches [.fe] s (s.setFe x) := by
  intro p hp; cases p <;> first | rfl | exact absurd (by decide) hp
theorem touches_setStore (x : MemoStore) : Touches [.store] s (s.setStore x) := by
  intro p hp; cases p <;> first | rfl | exact absurd (by decide) hp
theorem touches_setAdm (x : Admission) : Touches [.adm] s (s.setAdm x) := by
  intro p hp; cases p <;> first | rfl | exact absurd (by decide) hp
theorem touches_setPool (x : Pool) : Touches [.pool] s (s.setPool x) := by
  intro p hp; cases p <;> first | rfl | exact absurd (by decide) hp
theorem touches_setLog (x : FaultLog) : Touches [.log] s (s.setLog x) := by
  intro p hp; cases p <;> first | rfl | exact absurd (by decide) hp
theorem touches_setMail (x : Mail) : Touches [.mail] s (s.setMail x) := by
  intro p hp; cases p <;> first | rfl | exact absurd (by decide) hp
theorem touches_setLane (l : LaneId) (x : Lane) : Touches [.lanes] s (s.setLane l x) := by
  intro p hp; cases p <;> first | rfl | exact absurd (by decide) hp
theorem touches_setPort (q : Port) (x : PortRec) : Touches [.ports] s (s.setPort q x) := by
  intro p hp; cases p <;> first | rfl | exact absurd (by decide) hp
theorem touches_setMemo (m : MemoId) (x : Memo) : Touches [.store] s (s.setMemo m x) := touches_setStore s _
theorem touches_setAdmLane (l : LaneId) (x : AdmLane) : Touches [.adm] s (s.setAdmLane l x) := touches_setAdm s _
theorem touches_setAdmPort (q : Port) (x : AdmPort) : Touches [.adm] s (s.setAdmPort q x) := touches_setAdm s _
theorem touches_setSub (q : Port) (i : SubId) (x : Option Sub) : Touches [.adm] s (s.setSub q i x) := touches_setAdm s _
theorem touches_setQueue (q : Port) (x : List Entry) : Touches [.pool] s (s.setQueue q x) := touches_setPool s _
theorem touches_setSlot (i : SlotId) (x : Option Slot) : Touches [.pool] s (s.setSlot i x) := touches_setPool s _

theorem touches_unless (c : Prop) [Decidable c] (q : Port) (f : AdmPort → AdmPort) :
    Touches [.adm] s (if c then s else s.modAdmPort q f) :=
  Touches.ite (Touches.refl _ s) (touches_setAdmPort s q _)
theorem touches_when (c : Prop) [Decidable c] (q : Port) (f : AdmPort → AdmPort) :
    Touches [.adm] s (if c then s.modAdmPort q f else s) :=
  Touches.ite (touches_setAdmPort s q _) (Touches.refl _ s)

/-! ## Messages, notices, responses, the arbiter, the log -/

theorem touches_report (o : Occurrence) : Touches [.mail] s (report o s) := touches_setMail s _
theorem touches_tellStore (l : LaneId) (m : StoreMsg) : Touches [.mail] s (tellStore l m s) := touches_setMail s _
theorem touches_tellAdmission (m : AdmMsg) : Touches [.mail] s (tellAdmission m s) := touches_setMail s _
theorem touches_answerLane (l : LaneId) (m : LaneMsg) : Touches [.mail] s (answerLane l m s) := touches_setMail s _
theorem touches_handToPool (l : LaneId) (m : PacketMsg) : Touches [.mail] s (handToPool l m s) := touches_setMail s _
theorem touches_dropReports (l : LaneId) : Touches [.mail] s (dropReports l s) := touches_setMail s _

theorem touches_raiseNotice (n : Notice) (q : Port) : Touches [.ports] s (raiseNotice n q s) := by
  rw [raiseNotice_eq]; exact touches_setPort s _ _

theorem touches_raiseNoticeAll (n : Notice) : Touches [.ports] s (raiseNoticeAll n s) :=
  Touches.forEach (fun q t => touches_raiseNotice t n q) _ s

theorem touches_arbitrate (q : Port) : Touches [.ports] s (arbitrate q s) := by
  rw [arbitrate_eq]; exact touches_setPort s _ _

theorem touches_settle : Touches [.ports] s (settle s) := Touches.forEach (fun q t => touches_arbitrate t q) _ s

theorem touches_respond (q : Port) (status : Status) (fields : List Byte) :
    Touches [.ports] s (respond q status fields s) := by
  unfold respond
  split
  · exact Touches.refl _ s
  · exact touches_setPort s _ _

theorem touches_examineHead (q : Port) : Touches [.ports, .mail] s (examineHead q s) := by
  unfold examineHead
  split
  · exact Touches.refl _ s
  · split
    · exact Touches.refl _ s
    · split
      · exact (touches_respond s q _ _).mono (by decide)
      · split
        · exact ((touches_respond s q _ _).mono (by decide)).trans ((touches_report _ _).mono (by decide))
        · split
          · exact (touches_respond s q _ _).mono (by decide)
          · exact (touches_setPort s _ _).mono (by decide)

theorem touches_takeOccurrence (o : Occurrence) : Touches [.log, .ports] s (takeOccurrence o s) := by
  unfold takeOccurrence
  simp only
  split
  · exact Touches.refl _ s
  · split
    · split
      · exact ((touches_setLog s _).mono (by decide)).trans
          ((Touches.forEach (fun q t => touches_raiseNotice t _ q) _ _).mono (by decide))
      · exact (touches_setLog s _).mono (by decide)
    · exact (touches_setLog s _).mono (by decide)

/-! ## The memo store (chapter 5) -/

theorem touches_makeRecent (m : MemoId) : Touches [.store] s (makeRecent m s) := touches_setStore s _

theorem touches_allocate (m : MemoId) (x : PlanIndex) : Touches [.store] s (allocate m x s) :=
  (touches_setMemo s m _).trans (touches_makeRecent _ m)

theorem touches_findOrAllocate (x : PlanIndex) {m : MemoId} {made : Bool} {t : State}
    (h : findOrAllocate x s = some (m, made, t)) : Touches [.store] s t := by
  unfold findOrAllocate at h
  split at h
  · cases h; exact touches_makeRecent s _
  · split at h
    · cases h; exact touches_allocate s _ x
    · cases h

theorem touches_discardMemo (x : PlanIndex) : Touches [.store] s (discardMemo x s) := by
  unfold discardMemo
  split
  · exact Touches.refl _ s
  · exact (touches_setMemo s _ _).trans (touches_setStore _ _)

theorem touches_writeMemo (f : Params → Params) (m : MemoId) : Touches [.store] s (writeMemo f m s) :=
  touches_setMemo s m _

theorem touches_setPin (pinned : Bool) (m : MemoId) : Touches [.store] s (setPin pinned m s) := touches_setMemo s m _

theorem touches_clearPins : Touches [.store] s (clearPins s) :=
  Touches.forEach (fun m t => touches_setPin t false m) _ s

theorem touches_flushMemos (keep : MemoId → Bool) : Touches [.store] s (flushMemos keep s) :=
  (Touches.forEach (fun m t => touches_setMemo t m _) _ s).trans (touches_setStore _ _)

/-! ## The lanes (chapter 4) -/

theorem touches_writeFields (f : Params → Params) (l : LaneId) :
    Touches [.lanes, .store] s (writeFields f l s) := by
  unfold writeFields
  simp only
  split
  · exact (touches_setLane s l _).mono (by decide)
  · exact ((touches_setLane s l _).mono (by decide)).trans ((touches_writeMemo _ f _).mono (by decide))

theorem touches_enterStage (st : Stage) (ms : Nat) (l : LaneId) : Touches [.lanes] s (enterStage st ms l s) :=
  touches_setLane s l _

theorem touches_enterSense (l : LaneId) : Touches [.lanes] s (enterSense l s) := touches_setLane s l _

theorem touches_leaveWait (l : LaneId) : Touches [.lanes] s (leaveWait l s) := by
  unfold leaveWait
  exact Touches.ite (touches_enterSense s l) (Touches.refl _ s)

theorem touches_allLeaveWait : Touches [.lanes] s (allLeaveWait s) :=
  Touches.forEach (fun l t => touches_leaveWait t l) _ s

theorem touches_askRestart (l : LaneId) : Touches [.lanes, .mail] s (askRestart l s) := by
  unfold askRestart
  simp only
  split
  · split
    · exact ((touches_setLane s l _).mono (by decide)).trans ((touches_tellStore _ l _).mono (by decide))
    · exact Touches.refl _ s
  · exact Touches.refl _ s

theorem touches_reportState (l : LaneId) : Touches [.mail] s (reportState l s) := touches_tellAdmission s _
theorem touches_reportRate (l : LaneId) : Touches [.mail] s (reportRate l s) := touches_tellAdmission s _

theorem touches_restartLane (l : LaneId) : Touches [.lanes, .mail] s (restartLane l s) := by
  unfold restartLane
  simp only
  split
  · exact (((touches_setLane s l _).mono (by decide)).trans (touches_askRestart _ l)).trans
      ((touches_leaveWait _ l).mono (by decide))
  · exact ((((touches_setLane s l _).mono (by decide)).trans (touches_askRestart _ l)).trans
      ((touches_reportState _ l).mono (by decide))).trans ((touches_leaveWait _ l).mono (by decide))

theorem touches_restartBusyLanes : Touches [.lanes, .mail] s (restartBusyLanes s) :=
  Touches.forEach (fun l t => touches_restartLane t l) _ s

theorem touches_enterHoldoff (reason : HoldoffReason) (l : LaneId) :
    Touches [.lanes, .mail] s (enterHoldoff reason l s) :=
  ((touches_setLane s l _).mono (by decide)).trans ((touches_reportState _ l).mono (by decide))

theorem touches_countAttempt (l : LaneId) : Touches [.lanes, .mail] s (countAttempt l s) := by
  unfold countAttempt
  simp only
  split
  · exact ((touches_setLane s l _).mono (by decide)).trans ((touches_enterSense _ l).mono (by decide))
  · exact ((touches_setLane s l _).mono (by decide)).trans
      ((touches_enterHoldoff _ _ l).trans ((touches_report _ _).mono (by decide)))

theorem touches_enterLocked (l : LaneId) : Touches [.lanes, .mail] s (enterLocked l s) :=
  ((touches_setLane s l _).mono (by decide)).trans ((touches_reportState _ l).mono (by decide))

theorem touches_setUnsettled (l : LaneId) : Touches [.lanes] s (setUnsettled l s) := touches_setLane s l _

theorem touches_writeCell (cell : BitVec 16) (l : LaneId) :
    Touches [.lanes, .store, .mail] s (writeCell cell l s) := by
  unfold writeCell
  simp only
  split
  · exact (touches_writeFields s _ l).mono (by decide)
  · split
    · exact (touches_writeFields s _ l).mono (by decide)
    · exact ((touches_writeFields s _ l).mono (by decide)).trans ((touches_report _ _).mono (by decide))

theorem touches_freeLane (l : LaneId) : Touches [.lanes, .mail] s (freeLane l s) := by
  unfold freeLane
  simp only
  split
  · exact (touches_setLane s l _).mono (by decide)
  · exact ((touches_setLane s l _).mono (by decide)).trans ((touches_tellStore _ l _).mono (by decide))

theorem touches_releaseLane (l : LaneId) : Touches [.lanes, .mail] s (releaseLane l s) :=
  (touches_freeLane s l).trans ((touches_tellAdmission _ _).mono (by decide))

theorem touches_recordFree (l : LaneId) : Touches [.adm] s (recordFree l s) := touches_setAdmLane s l _

theorem touches_releaseWithin (l : LaneId) : Touches [.lanes, .adm, .mail] s (releaseWithin l s) :=
  (((touches_freeLane s l).mono (by decide)).trans ((touches_dropReports _ l).mono (by decide))).trans
    ((touches_recordFree _ l).mono (by decide))

theorem touches_lowerShare (l : LaneId) : Touches [.lanes, .adm, .mail] s (lowerShare l s) := by
  unfold lowerShare
  simp only
  split
  · split
    · exact ((touches_setAdmLane s l _).mono (by decide)).trans ((touches_releaseLane _ l).mono (by decide))
    · exact ((touches_setAdmLane s l _).mono (by decide)).trans ((touches_setLane _ l _).mono (by decide))
  · exact (touches_setAdmLane s l _).mono (by decide)

theorem touches_raiseShare (l : LaneId) : Touches [.lanes, .adm] s (raiseShare l s) :=
  ((touches_setAdmLane s l _).mono (by decide)).trans ((touches_setLane _ l _).mono (by decide))

theorem touches_assignLane (l : LaneId) (x : PlanIndex) (rate : Option Nat) :
    Touches [.lanes, .adm, .mail] s (assignLane l x rate s) := by
  unfold assignLane
  exact ((((touches_setLane s l _).mono (by decide)).trans ((touches_dropReports _ l).mono (by decide))).trans
    ((touches_setAdmLane _ l _).mono (by decide))).trans
    (((touches_reportState _ l).mono (by decide)).trans ((touches_tellStore _ l _).mono (by decide)))

theorem touches_feedHoldoff (l : LaneId) : Touches [.lanes, .mail] s (feedHoldoff l s) := by
  unfold feedHoldoff
  simp only
  split
  · exact Touches.refl _ s
  · exact Touches.refl _ s
  · exact (touches_setLane s l _).mono (by decide)
  · exact ((touches_setLane s l _).mono (by decide)).trans ((touches_reportState _ l).mono (by decide))

theorem touches_releaseFeedHoldoffs : Touches [.lanes, .mail] s (releaseFeedHoldoffs s) :=
  (Touches.forEach (fun l t => touches_restartLane t l) _ s).trans ((touches_allLeaveWait _).mono (by decide))

/-! ## The front end (chapter 3) -/

theorem touches_steer : Touches [.fe] s (steer s) := by
  unfold steer
  split <;> first
    | exact Touches.refl _ s
    | exact touches_setFe s _
    | exact Touches.ite (touches_setFe s _) (Touches.refl _ s)

theorem touches_retarget (before : Target) : Touches [.fe] s (retarget before s) := by
  unfold retarget
  exact Touches.ite (Touches.refl _ s) (touches_steer s)

theorem touches_moveWindow (position : Nat) :
    Touches [.fe, .lanes, .adm, .ports, .mail] s (moveWindow position s) := by
  unfold moveWindow
  simp only
  split
  · exact ((((touches_setFe s _).mono (by decide)).trans
      ((Touches.forEach (fun l t => touches_releaseWithin t l) _ _).mono (by decide))).trans
      ((touches_setFe _ _).mono (by decide))).trans
      (((touches_restartBusyLanes _).mono (by decide)).trans ((touches_raiseNoticeAll _ _).mono (by decide)))
  · exact (((touches_setFe s _).mono (by decide)).trans
      ((Touches.forEach (fun l t => touches_releaseWithin t l) _ _).mono (by decide))).trans
      ((touches_raiseNoticeAll _ _).mono (by decide))

theorem touches_raiseFeedNotice : Touches [.ports] s (raiseFeedNotice s) := touches_raiseNoticeAll s _

theorem touches_switchFeed (target : FeedState) :
    Touches [.fe, .lanes, .ports, .mail] s (switchFeed target s) := by
  unfold switchFeed
  generalize ht : s.modFe _ = t
  have h : Touches [.fe] s t := by subst ht; exact touches_setFe s _
  exact ((h.mono (by decide)).trans ((touches_releaseFeedHoldoffs t).mono (by decide))).trans
    ((touches_raiseFeedNotice _).mono (by decide))

theorem touches_setFeed (on : Bool) : Touches [.fe, .lanes, .ports, .mail] s (setFeed on s) := by
  unfold setFeed
  split
  · exact touches_switchFeed s .on
  · exact Touches.refl _ s
  · exact Touches.refl _ s
  · exact touches_switchFeed s .off
  · exact Touches.refl _ s
  · exact touches_switchFeed s .off
  · exact touches_switchFeed s .on
  · exact touches_switchFeed s .off

/-! ## The admission controller (chapter 6) -/

theorem touches_markServed (q : Port) : Touches [.adm] s (markServed q s) := touches_setAdm s _

theorem touches_rederive (always : Bool) (q : Port) (i : SubId) :
    Touches [.adm, .ports] s (rederive always q i s) := by
  unfold rederive
  split
  · exact Touches.refl _ s
  · split
    · exact Touches.refl _ s
    · simp only
      exact Touches.ite
        (((touches_setSub s q i _).mono (by decide)).trans ((touches_raiseNotice _ _ q).mono (by decide)))
        ((touches_setSub s q i _).mono (by decide))

theorem touches_rederiveLane (l : LaneId) : Touches [.adm, .ports] s (rederiveLane l s) :=
  Touches.forEach (fun (k : Port × SubId) t => touches_rederive t false k.1 k.2) _ s

theorem touches_rederivePort (always : Bool) (q : Port) : Touches [.adm, .ports] s (rederivePort always q s) :=
  Touches.forEach (fun i t => touches_rederive t always q i) _ s

theorem touches_readmitOne (q : Port) (i : SubId) : Touches [.adm, .ports] s (readmitOne q i s) := by
  unfold readmitOne
  split
  · exact Touches.refl _ s
  · simp only
    refine Touches.ite ?_ (Touches.refl _ s)
    exact (((touches_setAdmPort s q _).mono (by decide)).trans ((touches_setSub _ q i _).mono (by decide))).trans
      (touches_rederive _ false q i)

theorem touches_readmit (q : Port) : Touches [.adm, .ports] s (readmit q s) :=
  Touches.forEach (fun i t => touches_readmitOne t q i) _ s

theorem touches_reportIf (c : Prop) [Decidable c] (o : Occurrence) :
    Touches [.adm, .ports, .mail] s (if c then report o s else s) :=
  Touches.ite ((touches_report s o).mono (by decide)) (Touches.refl _ s)

theorem touches_rederiveIf (c : Prop) [Decidable c] (q : Port) (i : SubId) :
    Touches [.adm, .ports, .mail] s (if c then rederive true q i s else s) :=
  Touches.ite ((touches_rederive s true q i).mono (by decide)) (Touches.refl _ s)

theorem touches_recharge (l : LaneId) (q : Port) (i : SubId) :
    Touches [.adm, .ports, .mail] s (recharge l q i s) := by
  unfold recharge
  split
  · exact Touches.refl _ s
  · simp only
    split
    · exact ((((touches_unless s _ q _).mono (by decide)).trans ((touches_when _ _ q _).mono (by decide))).trans
        ((touches_setSub _ q i _).mono (by decide))).trans
        ((touches_reportIf _ _ _).trans (touches_rederiveIf _ _ q i))
    · exact Touches.refl _ s

theorem touches_ratePass (l : LaneId) : Touches [.adm, .ports, .mail] s (ratePass l s) := by
  refine Touches.forEach (fun q t => ?_) _ s
  unfold ratePassPort
  simp only
  refine Touches.trans (Touches.forEach (fun i v => touches_recharge v l q i) _ t) (Touches.ite ?_ (Touches.refl _ _))
  exact (touches_readmit _ q).mono (by decide)

theorem touches_popAdmission : Touches [.mail] s (popAdmission s) := touches_setMail s _

theorem touches_takeRate (l : LaneId) (rate : Option Nat) : Touches [.adm, .ports, .mail] s (takeRate l rate s) := by
  unfold takeRate
  exact Touches.ite (Touches.refl _ s)
    (((touches_setAdmLane s l _).mono (by decide)).trans (touches_ratePass _ l))

theorem touches_takeReport (m : AdmMsg) : Touches [.adm, .ports, .mail] s (takeReport m s) := by
  unfold takeReport
  have pop : Touches [.adm, .ports, .mail] s (popAdmission s) := (touches_popAdmission s).mono (by decide)
  split
  · exact (pop.trans (touches_takeRate _ _ _)).trans ((touches_settle _).mono (by decide))
  · exact (pop.trans (((touches_setAdmLane _ _ _).mono (by decide)).trans
      ((touches_rederiveLane _ _).mono (by decide)))).trans ((touches_settle _).mono (by decide))
  · exact pop.trans ((touches_recordFree _ _).mono (by decide))

theorem touches_takeReports : Touches [.adm, .ports, .mail] s (takeReports s) :=
  Touches.forEach (fun m t => touches_takeReport t m) _ s

/-- With no report waiting there is nothing to take. -/
@[simp] theorem takeReports_nil (h : s.mail.toAdm = []) : takeReports s = s := by
  simp [takeReports, h]

theorem touches_removeSub (q : Port) (i : SubId) (v : Sub) :
    Touches [.lanes, .adm, .mail] s (removeSub q i v s) := by
  unfold removeSub
  exact (((touches_unless s _ q _).mono (by decide)).trans ((touches_setSub _ q i _).mono (by decide))).trans
    (touches_lowerShare _ _)

theorem touches_removeAll (q : Port) : Touches [.lanes, .adm, .ports, .mail] s (removeAll q s) := by
  refine Touches.forEach (fun i t => ?_) _ s
  unfold removeWithNotice
  split
  · exact Touches.refl _ t
  · exact ((touches_removeSub t q i _).mono (by decide)).trans ((touches_raiseNotice _ _ q).mono (by decide))

theorem touches_takeLane (choice : LaneChoice) (x : PlanIndex) (rate : Option Nat) :
    Touches [.lanes, .adm, .mail] s (takeLane choice x rate s) := by
  unfold takeLane
  split
  · exact (touches_raiseShare s _).mono (by decide)
  · exact touches_assignLane s _ x rate
  · exact (touches_releaseWithin s _).trans (touches_assignLane _ _ x rate)

/-! ## The packet pool (chapter 7) -/

theorem touches_modSub (q : Port) (i : SubId) (f : Sub → Sub) : Touches [.adm] s (s.modSub q i f) := by
  unfold State.modSub
  split
  · exact Touches.refl _ s
  · exact touches_setSub s q i _

theorem touches_dropRef (i : SlotId) : Touches [.pool] s (dropRef i s) := by
  unfold dropRef
  split
  · exact Touches.refl _ s
  · exact Touches.ite (touches_setSlot s i _) (touches_setSlot s i _)

theorem touches_dropRefs (entries : List Entry) : Touches [.pool] s (dropRefs entries s) :=
  Touches.forEach (fun (e : Entry) t => touches_dropRef t e.slot) _ s

theorem touches_emptyQueue (q : Port) : Touches [.pool] s (emptyQueue q s) :=
  (touches_setQueue s q []).trans (touches_dropRefs _ _)

theorem touches_emptyUnsent (q : Port) : Touches [.pool] s (emptyUnsent q s) := by
  unfold emptyUnsent
  exact Touches.ite ((touches_setQueue s q _).trans (touches_dropRefs _ _)) (touches_emptyQueue s q)

theorem touches_restoreDefaults (q : Port) : Touches [.adm, .pool] s (restoreDefaults q s) :=
  ((touches_setAdmPort s q _).mono (by decide)).trans ((touches_setPool _ _).mono (by decide))

theorem touches_expireHold (q : Port) : Touches [.lanes, .adm, .pool, .ports, .mail] s (expireHold q s) := by
  unfold expireHold
  exact ((((touches_setPort s q _).mono (by decide)).trans ((touches_removeAll _ q).mono (by decide))).trans
    ((touches_emptyQueue _ q).mono (by decide))).trans
    (((touches_restoreDefaults _ q).mono (by decide)).trans ((touches_report _ _).mono (by decide)))

theorem touches_countErrorDrop (k : Port × SubId) : Touches [.adm] s (countErrorDrop k s) := touches_modSub s _ _ _
theorem touches_countOverflow (k : Port × SubId) : Touches [.adm] s (countOverflow k s) := touches_modSub s _ _ _

theorem touches_overflow (l : LaneId) (k : Port × SubId) : Touches [.adm, .mail] s (overflow l k s) :=
  ((touches_countOverflow s k).mono (by decide)).trans ((touches_report _ _).mono (by decide))

theorem touches_appendEntry (l : LaneId) (slot : SlotId) (marked : Bool) (k : Port × SubId) :
    Touches [.adm, .pool] s (appendEntry l slot marked k s) := by
  unfold appendEntry
  split
  · exact Touches.refl _ s
  · exact ((touches_setQueue s _ _).mono (by decide)).trans ((touches_setSub _ _ _ _).mono (by decide))

theorem touches_storePacket (l : LaneId) (m : PacketMsg) (keys : List (Port × SubId)) :
    Touches [.adm, .pool, .mail, .slotPicks] s (storePacket l m keys s) := by
  unfold storePacket
  simp only
  split
  · exact ((Touches.forEach (fun k t => touches_countOverflow t k) _ s).mono (by decide)).trans
      ((touches_report _ _).mono (by decide))
  · refine Touches.trans (t := { s.setSlot _ _ with slotPicks := s.slotPicks + 1 }) ?_
      ((Touches.forEach (fun k t => touches_appendEntry t l _ _ k) _ _).mono (by decide))
    intro p hp
    cases p <;> first | rfl | exact absurd (by decide) hp

theorem touches_takePacket (l : LaneId) (m : PacketMsg) :
    Touches [.adm, .pool, .mail, .slotPicks] s (takePacket l m s) := by
  unfold takePacket
  refine Touches.ite (Touches.refl _ s) ?_
  simp only
  split
  · exact ((Touches.forEach (fun k t => touches_countErrorDrop t k) _ s).mono (by decide)).trans
      ((Touches.forEach (fun k t => touches_overflow t l k) _ _).mono (by decide))
  · exact (((Touches.forEach (fun k t => touches_countErrorDrop t k) _ s).mono (by decide)).trans
      ((Touches.forEach (fun k t => touches_overflow t l k) _ _).mono (by decide))).trans
      (touches_storePacket _ l m _)

theorem touches_applyQuota (q : Port) (quota : Nat) : Touches [.adm, .pool] s (applyQuota q quota s) := by
  unfold applyQuota
  simp only
  refine Touches.trans ((touches_setPool s _).mono (by decide)) (Touches.forEach (fun e t => ?_) _ _)
  exact ((touches_dropRef t e.slot).mono (by decide)).trans ((touches_countOverflow _ _).mono (by decide))

end Sys2Proof.Machine
end

