-- ==== Sys2Proof/Laws/Lanes.lean ====
section
/-! SUPPORT. What the lane operations make of the lanes' records: each changes the record of its own lane only, and an
operation taken over every lane gives each lane what it gives that lane alone. With them, the recency order and the
notice queue. -/

namespace Sys2Proof.Machine

variable (s : State) (l k : LaneId)

/-! ## Leaving ACQUIRE(WAIT) (R66) -/

/-- A lane's record after it has left ACQUIRE(WAIT) where R66 lets it. -/
def State.leftWait (s : State) (x : Lane) : Lane :=
  if x.state = .acquire .wait ∧ x.lookupPending = false ∧ x.restartsPending = 0 ∧ s.fe.usable = true then
    { x with state := .acquire .sense, stageTimer := some (later s.now senseMs), tuned := s.tuning x }
  else x

theorem leaveWait_eq : leaveWait l s = s.setLane l (s.leftWait (s.lane l)) := by
  simp only [leaveWait, State.leftWait]
  split
  · rfl
  · simp

theorem leaveWait_lane : (leaveWait l s).lane k = if l = k then s.leftWait (s.lane l) else s.lane k := by
  rw [leaveWait_eq, State.setLane_lane]

/-! ## Restarting (R83, R87) -/

/-- A memo-less lane whose lookup is answered asks for a memo at a restart (R83, R101). -/
def Lane.asks (x : Lane) : Bool := x.memo.isNone && x.channel.isSome && !x.lookupPending

theorem askRestart_lane : (askRestart l s).lane k =
    if l = k then { s.lane l with restartsPending := (s.lane l).restartsPending + (s.lane l).asks.toNat }
    else s.lane k := by
  have idle : (s.lane l).asks = false → s.lane k =
      if l = k then { s.lane l with restartsPending := (s.lane l).restartsPending + (s.lane l).asks.toNat }
      else s.lane k := by
    intro h
    rw [h, Bool.toNat_false, Nat.add_zero]
    split
    · next e => rw [← e]
    · rfl
  unfold askRestart
  simp only
  split
  · next hm hc =>
    split
    · next h => simp [Lane.asks, tellStore, State.modLane, hm, hc, h]
    · next h =>
      refine idle ?_
      unfold Lane.asks
      cases hl : (s.lane l).lookupPending <;> simp_all
  · next h =>
    refine idle ?_
    unfold Lane.asks
    cases hm : (s.lane l).memo <;> cases hc : (s.lane l).channel <;> simp_all

/-- A lane's record after a restart: timers stopped, attempts 0, ACQUIRE(WAIT), and on to SENSE where R66 lets it. -/
def State.restarted (s : State) (x : Lane) : Lane :=
  s.leftWait
    { x.stopTimers with
      state := .acquire .wait, attempts := 0, restartsPending := x.restartsPending + x.asks.toNat }

/-- Where the front end, the time base and the plan are the same, a lane leaves WAIT alike. -/
theorem leftWait_congr (t : State) (h1 : t.fe = s.fe) (h2 : t.now = s.now) (h3 : t.plan = s.plan) :
    t.leftWait = s.leftWait := by
  funext x
  have entries : t.entry = s.entry := by funext c; simp only [State.entry, h3]
  have e : t.tuning = s.tuning := by funext y; simp only [State.tuning, entries]
  simp only [State.leftWait, h1, h2, e]

theorem restartLane_lane : (restartLane l s).lane k = if l = k then s.restarted (s.lane l) else s.lane k := by
  unfold restartLane
  simp only
  generalize ht : s.modLane l _ = t
  have t1 : Touches [.lanes, .mail] s (askRestart l t) := by
    subst ht
    exact ((touches_setLane s l _).mono (by decide)).trans (touches_askRestart _ l)
  have ft : (askRestart l t).fe = s.fe := t1.same .fe (by decide)
  have nt : (askRestart l t).now = s.now := t1.same .now (by decide)
  have pt : (askRestart l t).plan = s.plan := t1.same .plan (by decide)
  have lt : (askRestart l t).lane k = if l = k then
      { (s.lane l).stopTimers with
        state := .acquire .wait, attempts := 0
        restartsPending := (s.lane l).restartsPending + (s.lane l).asks.toNat }
      else s.lane k := by
    rw [askRestart_lane]
    subst ht
    by_cases e : l = k
    · subst e; simp [State.modLane, Lane.asks, Lane.stopTimers]
    · simp [State.modLane, e]
  split
  · rw [leaveWait_lane, leftWait_congr s _ ft nt pt]
    by_cases e : l = k
    · subst e; simp only [if_true] at lt ⊢; rw [lt]; rfl
    · simp only [if_neg e] at lt ⊢; exact lt
  · rw [leaveWait_lane, leftWait_congr s _ (by simpa [reportState] using ft) (by simpa [reportState] using nt)
      (by simpa [reportState] using pt)]
    by_cases e : l = k
    · subst e; simp only [if_true] at lt ⊢; simp only [reportState, tellAdmission_eq, State.setMail_lane, lt]; rfl
    · simp only [if_neg e] at lt ⊢; simpa [reportState] using lt

/-! ## An operation over every lane -/

/-- An operation that changes its own lane's record only, by a function of that record and of parts of the state it
leaves alone, gives each lane of a list without repeats what the function gives. -/
theorem forEach_lane {f : LaneId → State → State} {g : Lane → Lane} {same : State → Prop}
    (keeps : ∀ l t, same t → same (f l t))
    (one : ∀ l k t, same t → (f l t).lane k = if l = k then g (t.lane l) else t.lane k) :
    ∀ (items : List LaneId) (t : State), items.Nodup → same t →
      (forEach items f t).lane k = if k ∈ items then g (t.lane k) else t.lane k := by
  intro items
  induction items with
  | nil => intro t _ _; simp
  | cons x rest ih =>
    intro t hn hs
    obtain ⟨hx, hr⟩ := List.nodup_cons.mp hn
    rw [forEach_cons, ih (f x t) hr (keeps x t hs), one x k t hs]
    by_cases e : x = k
    · subst e; simp [hx]
    · have e' : k ≠ x := fun h => e h.symm
      simp [e, e']

theorem mem_allLanes : l ∈ allLanes := by revert l; decide

/-- Every lane leaves ACQUIRE(WAIT) where R66 lets it. -/
theorem allLeaveWait_lane : (allLeaveWait s).lane k = s.leftWait (s.lane k) := by
  unfold allLeaveWait
  rw [forEach_lane k (g := s.leftWait) (same := fun t => t.fe = s.fe ∧ t.now = s.now ∧ t.plan = s.plan) _ _ allLanes s
    (by decide) ⟨rfl, rfl, rfl⟩, if_pos (mem_allLanes k)]
  · intro x t h
    have e := touches_leaveWait t x
    exact ⟨Eq.trans (e.same .fe (by decide)) h.1, Eq.trans (e.same .now (by decide)) h.2.1,
      Eq.trans (e.same .plan (by decide)) h.2.2⟩
  · intro x y t h
    rw [leaveWait_lane, leftWait_congr s t h.1 h.2.1 h.2.2]

/-- A retune start restarts every lane that is not FREE and leaves a FREE one as it is (R87). -/
theorem restartBusyLanes_lane :
    (restartBusyLanes s).lane k = if s.laneBusy k then s.restarted (s.lane k) else s.lane k := by
  unfold restartBusyLanes
  rw [forEach_lane k (g := s.restarted) (same := fun t => t.fe = s.fe ∧ t.now = s.now ∧ t.plan = s.plan) _ _ _ s
    (List.Nodup.filter _ (by decide)) ⟨rfl, rfl, rfl⟩]
  · simp [List.mem_filter, mem_allLanes k]
  · intro x t h
    have e := touches_restartLane t x
    exact ⟨Eq.trans (e.same .fe (by decide)) h.1, Eq.trans (e.same .now (by decide)) h.2.1,
      Eq.trans (e.same .plan (by decide)) h.2.2⟩
  · intro x y t h
    rw [restartLane_lane]
    simp only [State.restarted, leftWait_congr s t h.1 h.2.1 h.2.2]

/-! ## Releases and HOLDOFF(FEED) (R85, R88) -/

theorem freeLane_lane : (freeLane l s).lane k = if l = k then (s.lane l).released else s.lane k := by
  unfold freeLane
  simp only
  split <;> simp [State.modLane, tellStore]

theorem releaseLane_lane : (releaseLane l s).lane k = if l = k then (s.lane l).released else s.lane k := by
  rw [← freeLane_lane]; rfl

theorem releaseWithin_lane : (releaseWithin l s).lane k = if l = k then (s.lane l).released else s.lane k := by
  rw [← freeLane_lane]; rfl

/-- An overcurrent puts a lane that is not FREE into HOLDOFF(FEED) with its timers stopped (R88). -/
theorem feedHoldoff_lane : (feedHoldoff l s).lane k =
    if l = k then
      if (s.lane l).state = .free ∨ (s.lane l).state = .holdoff .feed then s.lane l
      else { (s.lane l).stopTimers with state := .holdoff .feed }
    else s.lane k := by
  unfold feedHoldoff
  by_cases e : l = k
  · subst e
    simp only
    split <;> simp_all [State.modLane, reportState]
  · simp only [if_neg e]
    split <;> simp [State.modLane, reportState, e]

/-! ## The recency order (R94) -/

theorem toFront_perm (m : MemoId) (order : List MemoId) (h : m ∈ order) (hn : order.Nodup) :
    (toFront m order).Perm order := by
  unfold toFront
  have e : order.filter (fun x => decide (x ≠ m)) = order.erase m := by
    rw [hn.erase_eq_filter m]
    apply List.filter_congr
    intro x _
    by_cases c : x = m <;> simp [c]
  rw [e]
  exact (List.perm_cons_erase h).symm

theorem toBack_perm (m : MemoId) (order : List MemoId) (h : m ∈ order) (hn : order.Nodup) :
    (toBack m order).Perm order :=
  (List.perm_append_singleton m _).trans (toFront_perm m order h hn)

/-! ## The notice queue (R173) -/

theorem mem_keys_enqueueNotice (n : Notice) (ns : List Notice) (key : NoticeKey) :
    key ∈ (enqueueNotice n ns).map Notice.key ↔ key = n.key ∨ key ∈ ns.map Notice.key := by
  induction ns with
  | nil => simp [enqueueNotice]
  | cons m rest ih =>
    unfold enqueueNotice
    split
    · next h => simp [h]
    · simp only [List.map_cons, List.mem_cons, ih]; tauto

/-- A queue with at most one notice of each kind and subject keeps that form. -/
theorem enqueueNotice_nodup (n : Notice) (ns : List Notice) (h : (ns.map Notice.key).Nodup) :
    ((enqueueNotice n ns).map Notice.key).Nodup := by
  induction ns with
  | nil => simp [enqueueNotice]
  | cons m rest ih =>
    rw [List.map_cons, List.nodup_cons] at h
    unfold enqueueNotice
    split
    · next e => rw [List.map_cons, List.nodup_cons]; rw [← e]; exact h
    · next e =>
      rw [List.map_cons, List.nodup_cons, mem_keys_enqueueNotice]
      exact ⟨fun c => c.elim e h.1, ih h.2⟩

end Sys2Proof.Machine
end

