-- ==== Sys2Proof/Laws/Questions.lean ====
section
/-! SUPPORT. What a lane and the memo store have under way between them: the small lemmas of `sinceRelease`, and whose
memo a restart allocation may write. -/

namespace Sys2Proof.Machine

@[simp] theorem sinceRelease_nil : sinceRelease [] = [] := rfl

/-- Messages without a release behind them were all sent since. -/
theorem sinceRelease_eq_self {ms : List StoreMsg} (h : ms.any StoreMsg.releases = false) : sinceRelease ms = ms := by
  cases ms with
  | nil => rfl
  | cons m rest => simp [sinceRelease, h]

/-- Whatever was sent before a release is not of the present assignment. -/
@[simp] theorem sinceRelease_append_release (ms rest : List StoreMsg) (x : PlanIndex) :
    sinceRelease (ms ++ .release x :: rest) = sinceRelease rest := by
  induction ms with
  | nil => simp [sinceRelease, StoreMsg.releases]
  | cons m ms ih => simpa [sinceRelease, StoreMsg.releases] using ih

/-- A message that is no release adds itself to what was sent since the last one. -/
theorem sinceRelease_append {ms : List StoreMsg} {m : StoreMsg} (h : m.releases = false) :
    sinceRelease (ms ++ [m]) = sinceRelease ms ++ [m] := by
  induction ms with
  | nil => simp [sinceRelease, h]
  | cons k ms ih =>
    by_cases hk : (k :: ms).any StoreMsg.releases = true
    · have : (k :: (ms ++ [m])).any StoreMsg.releases = true := by simpa [h] using hk
      rw [List.cons_append, sinceRelease, if_pos this, ih, sinceRelease, if_pos hk]
    · have : ¬ (k :: (ms ++ [m])).any StoreMsg.releases = true := by simpa [h] using hk
      rw [List.cons_append, sinceRelease, if_neg this, sinceRelease, if_neg hk, List.cons_append]

/-- The store takes a lane's oldest message: what was sent since the last release loses it, or was sent later. -/
theorem sinceRelease_tail (m : StoreMsg) (rest : List StoreMsg) :
    sinceRelease (m :: rest) = sinceRelease rest ∨ sinceRelease (m :: rest) = m :: rest := by
  by_cases h : (m :: rest).any StoreMsg.releases = true
  · exact .inl (by rw [sinceRelease, if_pos h])
  · exact .inr (by rw [sinceRelease, if_neg h])

theorem keptByAnother_iff (s : State) (l : LaneId) (x : PlanIndex) :
    s.keptByAnother l x = true ↔ ∃ k, k ≠ l ∧ (s.lane k).channel = some x ∧ s.store.inUse.get k = some x := by
  have all : ∀ k : LaneId, k ∈ allLanes := by decide
  simp [State.keptByAnother, all]

/-- By Law 2 no memo of a lane's own channel is another lane's, so its restart allocation writes its fields (R101). -/
theorem keptByAnother_of_holder {s : State} {l : LaneId} {x : PlanIndex} (h : SharingLaw s)
    (hl : (s.lane l).channel = some x) : s.keptByAnother l x = false := by
  rw [Bool.eq_false_iff, ne_eq, keptByAnother_iff]
  rintro ⟨k, hk, hx, -⟩
  exact hk (h.oneLane k l x hx hl)

/-- A recheck's cell identifier is written only where it differs from a present one (R78). -/
theorem recheckCell_eq (l : LaneId) (cell : BitVec 16) (s : State) :
    recheckCell l cell s =
      if (s.lane l).params.cell ≠ none ∧ (s.lane l).params.cell ≠ some cell then writeCell cell l s else s := by
  unfold recheckCell
  cases (s.lane l).params.cell with
  | none => simp
  | some old => by_cases h : old = cell <;> simp [h]

end Sys2Proof.Machine
end

