-- ==== Sys2Proof/Laws/Reports.lean ====
section
/-! SUPPORT. What the taking of the lanes' reports leaves alone: the reports that wait behind them, and every port's link.
With it, a link event that takes the waiting reports first can be cut at the oldest one. -/

namespace Sys2Proof.Machine

/-- Two states with the same reports waiting at the admission controller, the same links and the same hold starts. -/
def SameReports (s t : State) : Prop :=
  t.mail.toAdm = s.mail.toAdm ∧ ∀ p, (t.port p).link = (s.port p).link ∧ (t.port p).holdStart = (s.port p).holdStart

theorem SameReports.refl (s : State) : SameReports s s := ⟨rfl, fun _ => ⟨rfl, rfl⟩⟩

theorem SameReports.trans {s t u : State} (h : SameReports s t) (k : SameReports t u) : SameReports s u :=
  ⟨k.1.trans h.1, fun p => ⟨(k.2 p).1.trans (h.2 p).1, (k.2 p).2.trans (h.2 p).2⟩⟩

theorem SameReports.ite {c : Prop} [Decidable c] {s t u : State} (h : SameReports s t) (k : SameReports s u) :
    SameReports s (if c then t else u) := by
  split
  · exact h
  · exact k

theorem SameReports.forEach {α : Type} {f : α → State → State} (h : ∀ x t, SameReports t (f x t)) :
    ∀ (items : List α) (s : State), SameReports s (Machine.forEach items f s) := by
  intro items
  induction items with
  | nil => intro s; exact SameReports.refl s
  | cons x rest ih => intro s; rw [forEach_cons]; exact (h x s).trans (ih _)

variable (s : State)

theorem sameReports_setAdm (x : Admission) : SameReports s (s.setAdm x) := SameReports.refl s

theorem sameReports_setSub (p : Port) (i : SubId) (u : Option Sub) : SameReports s (s.setSub p i u) :=
  SameReports.refl s

theorem sameReports_modAdmPort (p : Port) (f : AdmPort → AdmPort) : SameReports s (s.modAdmPort p f) :=
  SameReports.refl s

theorem sameReports_modAdmLane (l : LaneId) (f : AdmLane → AdmLane) : SameReports s (s.modAdmLane l f) :=
  SameReports.refl s

theorem sameReports_report (o : Occurrence) : SameReports s (report o s) := by
  rw [report_eq]; exact ⟨rfl, fun _ => ⟨rfl, rfl⟩⟩

theorem sameReports_raiseNotice (n : Notice) (p : Port) : SameReports s (raiseNotice n p s) := by
  rw [raiseNotice_eq]
  refine ⟨rfl, fun q => ?_⟩
  by_cases e : p = q
  · subst e
    rw [State.setPort_port, if_pos rfl]
    split <;> exact ⟨rfl, rfl⟩
  · simp [e]

theorem sameReports_settle : SameReports s (settle s) := by
  refine ⟨by rw [settle_mail], fun p => ?_⟩
  rw [settle_port]
  unfold PortRec.arbitrated
  split <;> (try split) <;> exact ⟨rfl, rfl⟩

theorem sameReports_rederive (always : Bool) (p : Port) (i : SubId) : SameReports s (rederive always p i s) := by
  unfold rederive
  split
  · exact SameReports.refl s
  · split
    · exact SameReports.refl s
    · simp only
      exact SameReports.ite ((sameReports_setSub s p i _).trans (sameReports_raiseNotice _ _ p))
        (sameReports_setSub s p i _)

theorem sameReports_readmit (p : Port) : SameReports s (readmit p s) := by
  refine SameReports.forEach (fun i t => ?_) _ s
  unfold readmitOne
  split
  · exact SameReports.refl t
  · simp only
    exact SameReports.ite
      (((sameReports_modAdmPort t p _).trans (sameReports_setSub _ p i _)).trans (sameReports_rederive _ false p i))
      (SameReports.refl t)

theorem sameReports_recharge (l : LaneId) (p : Port) (i : SubId) : SameReports s (recharge l p i s) := by
  unfold recharge
  split
  · exact SameReports.refl s
  · simp only
    split
    · have off : ∀ (c : Prop) [Decidable c] (t : State) (f : AdmPort → AdmPort),
          SameReports t (if c then t else t.modAdmPort p f) := fun c _ t f =>
        SameReports.ite (SameReports.refl t) (sameReports_modAdmPort t p f)
      have on : ∀ (c : Prop) [Decidable c] (t : State) (f : AdmPort → AdmPort),
          SameReports t (if c then t.modAdmPort p f else t) := fun c _ t f =>
        SameReports.ite (sameReports_modAdmPort t p f) (SameReports.refl t)
      exact ((((off _ s _).trans (on _ _ _)).trans (sameReports_setSub _ p i _)).trans
        (SameReports.ite (sameReports_report _ _) (SameReports.refl _))).trans
        (SameReports.ite (sameReports_rederive _ true p i) (SameReports.refl _))
    · exact SameReports.refl s

theorem sameReports_ratePass (l : LaneId) : SameReports s (ratePass l s) := by
  refine SameReports.forEach (fun p t => ?_) _ s
  unfold ratePassPort
  simp only
  exact (SameReports.forEach (fun i v => sameReports_recharge v l p i) _ t).trans
    (SameReports.ite (sameReports_readmit _ p) (SameReports.refl _))

/-- Taking a report leaves the links and hold starts, and exactly the reports behind it wait on. -/
theorem takeReport_leaves (m : AdmMsg) : SameReports (popAdmission s) (takeReport m s) := by
  unfold takeReport
  split
  · refine SameReports.trans ?_ (sameReports_settle _)
    exact SameReports.ite (SameReports.refl _) ((sameReports_modAdmLane _ _ _).trans (sameReports_ratePass _ _))
  · refine SameReports.trans ?_ (sameReports_settle _)
    exact SameReports.forEach (fun (k : Port × SubId) t => sameReports_rederive t false k.1 k.2) _ _
  · exact sameReports_modAdmLane _ _ _

@[simp] theorem takeReport_toAdm (m : AdmMsg) : (takeReport m s).mail.toAdm = s.mail.toAdm.tail :=
  (takeReport_leaves s m).1

@[simp] theorem takeReport_link (m : AdmMsg) (p : Port) : ((takeReport m s).port p).link = (s.port p).link :=
  ((takeReport_leaves s m).2 p).1

@[simp] theorem takeReport_holdStart (m : AdmMsg) (p : Port) :
    ((takeReport m s).port p).holdStart = (s.port p).holdStart :=
  ((takeReport_leaves s m).2 p).2

/-- Taking every report is taking the oldest and then every other one. -/
theorem takeReports_cons (m : AdmMsg) (rest : List AdmMsg) (h : s.mail.toAdm = m :: rest) :
    takeReports s = takeReports (takeReport m s) := by
  unfold takeReports
  rw [takeReport_toAdm, h]
  rfl

end Sys2Proof.Machine
end

