-- ==== Sys2Proof/WellFormed.lean ====
section
/-! DEFINITION. Which terms of `Instr` stand for a command the hardware can meet: the demodulator reports an offset of
-500 to +500 kHz (R19, R68), the outer decoder delivers 188 bytes and corrects 1 to 10 of them (R20), and an uplink
delivery brings at least one byte (R168). Every other operand is in range by its type. -/

namespace Sys2Proof

/-- An offset the demodulator can report: -500 to +500 kHz (R19). -/
def offsetInRange (offset : Int) : Bool := decide (-500 ≤ offset) && decide (offset ≤ 500)

/-- An outcome of the outer decoder: a CORRECTED packet has 1 to 10 corrected bytes (R20). -/
def PacketOutcome.wellFormed : PacketOutcome → Bool
  | .clean => true
  | .corrected n => decide (1 ≤ n) && decide (n ≤ 10)
  | .uncorrectable => true

/-- The commands whose operands the hardware can give. -/
def Instr.wellFormed : Instr → Bool
  | .carrierFound _ offset _ _ => offsetInRange offset
  | .lanePacket _ outcome bytes => outcome.wellFormed && decide (bytes.length = 188)
  | .uplinkFrame _ bytes => decide (0 < bytes.length)
  | .coldReset => true
  | .warmReset => true
  | .planWrite _ => true
  | .planDiscard => true
  | .planRead _ => true
  | .installSet _ => true
  | .planLock _ => true
  | .feedSet _ => true
  | .memoPin _ => true
  | .memoUnpin _ => true
  | .memoReleaseAll _ => true
  | .memoFlush _ => true
  | .memoFlushUnpinned _ => true
  | .memoSeed _ => true
  | .memoRead _ => true
  | .memoSnapshot _ => true
  | .subscribe _ => true
  | .unsubscribe _ => true
  | .filterSet _ => true
  | .portSetup _ => true
  | .portReset _ => true
  | .windowSet _ => true
  | .severitySet _ => true
  | .logRead _ => true
  | .logClear _ => true
  | .statusSubscription _ => true
  | .statusLane _ => true
  | .statusFrontEnd _ => true
  | .statusPort _ => true
  | .responseSendComplete _ => true
  | .noticeSendComplete _ => true
  | .sendComplete _ => true
  | .alertPulseEnd _ => true
  | .linkUp _ => true
  | .linkDown _ => true
  | .holdExpiry _ => true
  | .wakeCompletion => true
  | .retuneCompletion => true
  | .idleWindowSettled => true
  | .minimumResidencyEnd => true
  | .lastMoveStampDrop => true
  | .clipEvent => true
  | .quietTimeExpiry => true
  | .overcurrentEvent => true
  | .feedRestore => true
  | .lastRestoreStampDrop => true
  | .lookup _ => true
  | .lookupAnswer _ => true
  | .lockNotice _ => true
  | .releaseNotice _ => true
  | .restartAllocation _ => true
  | .restartAllocationAnswer _ => true
  | .signalPresent _ => true
  | .senseTimeout _ => true
  | .carrierTimeout _ => true
  | .frameDecoded _ _ _ _ => true
  | .frameTimeout _ => true
  | .signallingMatch _ _ => true
  | .signallingMismatch _ => true
  | .verifyTimeout _ => true
  | .streamSync _ => true
  | .streamTimeout _ => true
  | .syncLost _ => true
  | .syncRegained _ => true
  | .coastExpiry _ => true
  | .recheckTimerExpiry _ => true
  | .recheck _ _ _ _ _ _ => true
  | .errorRateWindowComplete _ => true
  | .unsettledExpiry _ => true
  | .retryExpiry _ => true
  | .lingerExpiry _ => true
  | .rateReport _ => true
  | .laneStateChange _ => true
  | .changeToFree _ => true
  | .packetEvent _ => true
  | .logOccurrence _ => true

end Sys2Proof
end

