-- ==== Sys2Proof/Tests/Slice0.lean ====
section
/-! SUPPORT. Tests of the model against figures and examples of spec/, and for each statement with hypotheses a witness:
a concrete state and operands that meet them together, at the boundary values of its clauses. -/

open Sys2Proof Sys2Proof.Machine

-- One theorem is elaborated at a time: each waiting thread reserves memory of its own.
set_option Elab.async false

namespace Sys2Proof.Tests

/-! ## Helpers -/

/-- A property of the four ports, by looking at each. -/
theorem everyPort {P : Port → Prop} [DecidablePred P] (h : Port.all.all (fun p => decide (P p)) = true) : ∀ p, P p := by
  intro p
  exact of_decide_eq_true (List.all_eq_true.mp h p (by cases p <;> decide))

/-- A property of the subscriptions of a port, by looking at its six ids. -/
theorem everySub {s : State} {p : Port} {P : SubId → Sub → Prop} [∀ i u, Decidable (P i u)]
    (h : allIds.all (fun i => match s.sub p i with
      | none => true
      | some u => decide (P i u)) = true) : ∀ i u, s.sub p i = some u → P i u := by
  intro i u hu
  have hi : i ∈ allIds := (by decide : ∀ i : SubId, i ∈ allIds) i
  have := List.all_eq_true.mp h i hi
  simpa [hu] using this

/-- A property of every subscription, by looking at the 24 places. -/
theorem everySubOf {s : State} {P : Port → SubId → Sub → Prop} [∀ p i u, Decidable (P p i u)]
    (h : Port.all.all (fun p => allIds.all (fun i => match s.sub p i with
      | none => true
      | some u => decide (P p i u))) = true) : ∀ p i u, s.sub p i = some u → P p i u := by
  intro p
  exact everySub (List.all_eq_true.mp h p (by cases p <;> decide))

theorem settled {s : State} (h : Port.all.all (fun p => decide ((s.port p).link = .attached →
    (s.port p).downlink = .idle → (s.port p).responses = [] ∧ (s.port p).notices = [] ∧ s.queue p = [])) = true) :
    s.Settled :=
  everyPort h

/-- Whether a request waits, as a computation. -/
def asksB (s : State) (p : Port) (body : Option (List Byte)) : Bool :=
  (Port.all.all fun q => decide ((s.port q).link = .attached → (s.port q).downlink = .idle →
    (s.port q).responses = [] ∧ (s.port q).notices = [] ∧ s.queue q = [])) &&
  decide ((s.port p).link = .attached) && decide (body.isSome = true)

theorem asks {s : State} {p : Port} {k : ReqKind} {body : List Byte}
    (h : (asksB s p (s.headBody p k) && decide (s.headBody p k = some body)) = true) : s.Asks p k body := by
  simp only [asksB, Bool.and_eq_true, decide_eq_true_eq] at h
  exact ⟨settled (by simpa using h.1.1.1), h.1.1.2, h.2⟩

theorem asksAdmission {s : State} {p : Port} {k : ReqKind} {body : List Byte}
    (h : (asksB s p (s.granted p k) && decide (s.granted p k = some body)) = true) : s.AsksAdmission p k body := by
  simp only [asksB, Bool.and_eq_true, decide_eq_true_eq] at h
  exact ⟨settled (by simpa using h.1.1.1), h.1.1.2, h.2⟩

/-- Whether a command answers a next state that passes a test. -/
def answers (c : Instr) (s : State) (test : State → Bool) : Bool :=
  match exec c s with
  | .next t => test t
  | .fault _ => false
  | .refused _ => false

/-- The state with one port ATTACHED and a request of a kind passed at its head. -/
def asking (s : State) (p : Port) (k : ReqKind) (body : List Byte) : State :=
  s.setPort p { PortRec.fresh with
    link := .attached, attach := some .fresh, requests := [{ kind := k.code, tag := 7, body, passed := true }] }

/-- The state with one port ATTACHED and nothing else on it. -/
def attached (s : State) (p : Port) : State := s.setPort p { PortRec.fresh with link := .attached, attach := some .fresh }

/-- Two channels of the plan of spec chapter 11, and the state that holds them at indices 0 and 1. -/
def channel0 : PlanEntry := { centre := 522000, bandwidth := .b8, label := none }
def channel1 : PlanEntry := { centre := 698000, bandwidth := .b8, label := none }
def planned : State := State.reset.setPlan { PlanBlock.fresh with
  entries := Tab.put (Tab.put PlanBlock.fresh.entries 0 (some channel0)) 1 (some channel1) }

/-- A lane on a channel. -/
def onChannel (x : PlanIndex) (st : LaneState) : Lane := { Lane.fresh with state := st, channel := some x }

/-- The part with a lane LOCKED on index 0 with a memo, the front end ACTIVE: the lane lingers since time 0. -/
def lingering : State :=
  ((planned.setLane 0 { onChannel 0 .locked with memo := some 0, lingerStart := some 0, recheckTimer := some 500 }).setFe
    { FrontEnd.fresh with state := .active }).setAdmLane 0
      { channel := some 0, share := 0, rate := none, seen := .locked }

/-- A subscription on a lane. -/
def sub (x : PlanIndex) (l : LaneId) (charge : Nat) : Sub :=
  { channel := x, lane := l, mode := .mark, pids := [], charge := charge, overload := false, liveMark := true,
    reported := .live, continuity := 15, firstAfter := true, delivered := 0, marked := 0, errorDropped := 0,
    overflowDropped := 0 }

/-- The same lane shared by the subscription 0 of one port, whose committed load it makes. -/
def shared (p : Port) (charge : Nat) : State :=
  let s := lingering.setLane 0 { onChannel 0 .locked with memo := some 0, recheckTimer := some 500 }
  ((s.setAdmLane 0 { channel := some 0, share := 1, rate := none, seen := .locked }).setAdmPort p
    { AdmPort.fresh with committed := charge }).setSub p 0 (some (sub 0 0 charge))

/-- The state at another time. -/
def atTime (s : State) (now : Time) : State := { s with now := now }

/-- A message to the store stands first in a lane's list. -/
def toStore (s : State) (l : LaneId) (m : StoreMsg) : State :=
  s.setMail { s.mail with toStore := Tab.put s.mail.toStore l [m] }

/-- A report stands first at the admission controller. -/
def toAdm (s : State) (m : AdmMsg) : State := s.setMail { s.mail with toAdm := [m] }

/-! ## Well-formed commands: one ill-formed term for each check -/

theorem test_offset_above_500_refused : (Instr.carrierFound 0 501 .s .g4).wellFormed = false := by decide
theorem test_offset_below_minus_500_refused : (Instr.carrierFound 0 (-501) .s .g4).wellFormed = false := by decide
theorem test_offset_at_the_ends_passes :
    (Instr.carrierFound 5 500 .l .g32).wellFormed = true ∧ (Instr.carrierFound 5 (-500) .l .g32).wellFormed = true := by
  decide
theorem test_corrected_0_refused : PacketOutcome.wellFormed (.corrected 0) = false := by decide
theorem test_corrected_11_refused : PacketOutcome.wellFormed (.corrected 11) = false := by decide
theorem test_packet_of_187_bytes_refused :
    (Instr.lanePacket 0 .clean (List.replicate 187 0x47)).wellFormed = false := by decide +kernel
theorem test_packet_of_188_bytes_passes :
    (Instr.lanePacket 0 (.corrected 10) (List.replicate 188 0x47)).wellFormed = true := by decide +kernel
theorem test_empty_uplink_refused : (Instr.uplinkFrame .a []).wellFormed = false := by decide
theorem test_no_word_spells_a_command : decodeTableWord 8 0x40 = none ∧ State.reset.withFetchWord 8 0x40 = State.reset :=
  ⟨rfl, rfl⟩

/-! ## Figures of spec chapter 2 -/

/-- 2.2.2 and 11.3: rates of the example multiplexes. -/
theorem test_stream_rates :
    streamRateOf .b8 .g4 .p64 .r34 = 24403 ∧ streamRateOf .b7 .g8 .p64 .r23 = 21089 ∧
      streamRateOf .b8 .g4 .p16 .r56 = 18076 ∧ streamRateOf .b8 .g4 .p64 .r78 = 28471 := by decide
/-- 2.3: provisional rates of the three bandwidths. -/
theorem test_provisional_rates :
    provisionalRate .b8 = 34510 ∧ provisionalRate .b7 = 30196 ∧ provisionalRate .b6 = 25882 := by decide
/-- 2.4 and 11.3: link loads, rounded up. -/
theorem test_link_loads :
    linkLoad 24403 = 24923 ∧ linkLoad 34510 = 35245 ∧ linkLoad 30196 = 30839 ∧ linkLoad 25882 = 26433 ∧
      linkLoad 21089 = 21538 ∧ linkLoad 28471 = 29077 := by decide
/-- 2.7.1 to 2.7.4: placements, and the set for which there is none. -/
theorem test_placements :
    placement { centre := 745500, bandwidth := .b7, label := none } [channel0, channel1] = some 505000 ∧
      placement { centre := 746000, bandwidth := .b8, label := none }
        [{ centre := 482000, bandwidth := .b8, label := none }, channel1] = none ∧
      placement { centre := 744500, bandwidth := .b8, label := none }
        [{ centre := 505000, bandwidth := .b8, label := none }] = some 497000 ∧
      placement { centre := 744500, bandwidth := .b8, label := none }
        [{ centre := 504000, bandwidth := .b7, label := none }] = none := by decide
theorem test_placement_clamped :
    placement { centre := 170000, bandwidth := .b8, label := none } [] = some 160000 ∧
      placement { centre := 860000, bandwidth := .b8, label := none } [] = some 624000 := by decide
/-- 2.6 and 2.5: a window edge and a capacity as given and as stored (11.5: 46,800 is stored as 46,000). -/
theorem test_rounding : roundWindow 505999 = 505000 ∧ roundCapacity 46800 = 46000 := by decide

/-! ## Figures of spec chapter 10 -/

/-- R199: the check of the nine bytes 31h to 39h is 29B1h. -/
theorem test_check_code : crc16 [0x31, 0x32, 0x33, 0x34, 0x35, 0x36, 0x37, 0x38, 0x39] = 0x29B1#16 := by decide +kernel
/-- 10.8: the body of the SUBSCRIBE is read with its PIDs sorted and 8191 removed. -/
theorem test_subscribe_body : SubscribeBody.read [0x07, 0, 0, 3, 1, 1, 1, 0, 0x1F, 0xFF] =
    some { index := 7, allowMove := false, mode := .mark, pids := [256, 257] } := by decide
/-- 10.8: the fields of the answer, after the status byte. -/
theorem test_subscribe_answer : admittedFields 0 1 24923 (some 24403) 470000 [256, 257] =
    [0x00, 0x01, 0x61, 0x5B, 0x01, 0x00, 0x07, 0x2B, 0xF0, 0x02, 0x01, 0x00, 0x01, 0x01] := by decide
/-- 10.8: the STREAM_STATE notice, and the tag header of the first packet frame. -/
theorem test_notice_and_tag_header :
    (Notice.streamState 0 (some (.pending, 1, 24923))).body = [0x00, 0x02, 0x01, 0x61, 0x5B] ∧
      tagHeader { slot := 5, port := .a, id := 0, lane := 1, continuity := 0, errorFlag := false, firstAfter := true } =
        [0xB8, 0x01, 0x01, 0x0F] := by decide
/-- R1: the RESET pin below 100 µs, from there, and from 10 ms. -/
theorem test_reset_pulse :
    resetPulse 99 = none ∧ resetPulse 100 = some .warmReset ∧ resetPulse 9999 = some .warmReset ∧
      resetPulse 10000 = some .coldReset := by decide

/-! ## Steps of spec chapter 11 -/

/-- 11.1, 40: link-up on A demands IDLE, and the front end goes from OFF to IDLE with the stamp 40. -/
theorem test_link_up_wakes_to_idle : answers (.linkUp .a) (atTime State.reset 40) (fun t =>
    decide (t.fe.state = .idle) && decide (t.fe.idleSince = some 40) && decide ((t.port .a).attach = some .fresh)) = true := by
  decide
/-- 11.1, 1,400: MEMO_PIN 0 allocates memo 0 and makes it most recent. -/
theorem test_memo_pin_allocates_memo_0 : answers (.memoPin .a) (asking planned .a .memoPin [0]) (fun t =>
    decide ((t.memo 0) = { tag := some 0, pinned := true, fields := Params.absent }) &&
      decide (t.store.order = [0, 15, 14, 13, 12, 11, 10, 9, 8, 7, 6, 5, 4, 3, 2, 1])) = true := by decide
/-- 11.1, 2,000: a SUBSCRIBE of index 0 without a memo is charged the provisional 35,245 on lane 0, and the front end
wakes. -/
theorem test_subscribe_takes_lane_0 : answers (.subscribe .a) (atTime (asking planned .a .subscribe [0, 0, 0, 0]) 2000)
    (fun t => decide ((t.sub .a 0).map Sub.charge = some 35245) && decide ((t.lane 0).state = .acquire .wait) &&
      decide ((t.admPort .a).committed = 35245) && decide (t.fe.wakeEnd = some 2120)) = true := by decide
/-- R181: the time base wraps at the 2^32 nd millisecond. -/
theorem test_idle_step_wraps_the_time_base :
    step (atTime State.reset 0xFFFFFFFF) = .next State.reset := by rfl

/-- A test that a command's answer passes is passed by the next state it answers. -/
theorem next_of_answers {c : Instr} {s : State} {test : State → Bool} (h : answers c s test = true) :
    ∃ t, exec c s = .next t ∧ test t = true := by
  unfold answers at h
  split at h
  · exact ⟨_, by assumption, h⟩
  · cases h
  · cases h

/-! ## Witnesses: the step and the resets -/

theorem witness_IdleStepIsOneMillisecond :
    State.reset.pending = [] ∧ ((planned.setFe { FrontEnd.fresh with state := .active, quiet := 59999 }).pending = []) ∧
      (planned.setFe { FrontEnd.fresh with state := .active, quiet := 60000 }).pending = [] := ⟨rfl, rfl, rfl⟩

/-- The body of a PLAN_WRITE. -/
def writeBody (index centre bandwidth labelLength : Nat) (char : Byte) : List Byte :=
  enc8 index ++ (enc32 centre ++ (enc16 bandwidth ++ (enc8 labelLength ++ List.replicate 16 char)))

def writing (index centre bandwidth labelLength : Nat) (char : Byte) (s : State) : State :=
  asking s .a .planWrite (writeBody index centre bandwidth labelLength char)

/-- Each of the four changes happens at a command that may make it. -/
theorem witness_SharedSettingsChangeOnlyAtTheirCommands :
    (∃ t, exec (.planWrite .a) (writing 95 168000 8000 255 0 State.reset) = .next t ∧
      decide (t.entry 95 ≠ State.reset.entry 95) = true) ∧
    (∃ t, exec .warmReset (State.reset.setPlan { PlanBlock.fresh with lock := true }) = .next t ∧
      decide (t.plan.lock = false) = true) ∧
    (∃ t, exec (.windowSet .a) (asking State.reset .a .windowSet [0, 9, 0x85, 0x80]) = .next t ∧
      decide (t.fe.window = 624000) = true) ∧
    ∃ t, exec (.severitySet .a) (asking State.reset .a .severitySet [17, 4]) = .next t ∧
      decide (t.log.severity .warmReset ≠ State.reset.log.severity .warmReset) = true :=
  ⟨next_of_answers (by decide), next_of_answers (by decide), next_of_answers (by decide),
    next_of_answers (by decide)⟩

/-- A log with a first record in its major class, its count at the bound. -/
def majorFull : State := State.reset.setLog { FaultLog.fresh with
  major := { first := some { kind := .feedFault, severity := .serious, stamp := 3, port := none, lane := none, plan := none },
             nextSet := [.warmReset], count := 65535 } }

/-- A severity table in which WARM_RESET is IGNORE. -/
def resetIgnored : State := State.reset.setLog { FaultLog.fresh with severities := Tab.put defaultSeverities 17 .ignore }

theorem witness_WarmResetKeepsPlanAndLog :
    ((State.reset.log.severity .warmReset).cls = some .major ∧ (State.reset.log.cls .major).first = none) ∧
    ((majorFull.log.severity .warmReset).cls = some .major ∧ (majorFull.log.cls .major).first ≠ none) ∧
    (∀ n, (resetIgnored.log.severity .warmReset).cls ≠ some n) ∧
    (State.reset.log.severity .warmReset).cls ≠ some .minor :=
  ⟨by decide, by decide, fun n => by cases n <;> decide, by decide⟩

/-! ## Witnesses: channel plan and settings -/

/-- Whether a PLAN_WRITE passes its range check; its label field is always 16 bytes. -/
def passes (index centre bandwidth labelLength : Nat) (char : Byte) : Bool :=
  (PlanWriteBody.read (writeBody index centre bandwidth labelLength char)).check.isSome &&
    decide ((PlanWriteBody.read (writeBody index centre bandwidth labelLength char)).labelBytes.length = 16)

theorem witness_PlanWriteRangeCheck_passes :
    passes 95 168000 8000 16 0x20 = true ∧ passes 0 872000 8000 16 0x7E = true ∧ passes 0 168000 8000 255 0x1F = true ∧
      passes 0 167000 6000 0 0x1F = true ∧ passes 95 1 0 17 0x7F = true := by decide

theorem witness_PlanWriteRangeCheck_refused :
    (writing 96 168000 8000 255 0 State.reset).Asks .a .planWrite (writeBody 96 168000 8000 255 0) ∧
    (writing 96 168000 8000 255 0 State.reset).plan.discard = none ∧
    (PlanWriteBody.read (writeBody 96 168000 8000 255 0)).check = none ∧
    (PlanWriteBody.read (writeBody 0 167750 8000 255 0)).check = none ∧
    (PlanWriteBody.read (writeBody 0 872250 8000 255 0)).check = none ∧
    (PlanWriteBody.read (writeBody 0 168100 8000 255 0)).check = none ∧
    (PlanWriteBody.read (writeBody 0 168000 6500 255 0)).check = none ∧
    (PlanWriteBody.read (writeBody 0 0xFFFFFFFF 8000 255 0)).check = none ∧
    (PlanWriteBody.read (writeBody 0 168000 8000 17 0x20)).check = none ∧
    (PlanWriteBody.read (writeBody 0 168000 8000 1 0x1F)).check = none ∧
    (PlanWriteBody.read (writeBody 0 168000 8000 1 0x7F)).check = none :=
  ⟨asks (by decide), rfl, by decide⟩

/-- The lane that holds the channel of an index. -/
def inUseBy (s : State) (x : PlanIndex) : Option LaneId :=
  allLanes.find? (fun l => decide ((s.lane l).state ≠ .free ∧ (s.lane l).channel = some x))

theorem witness_PlanWriteAndPlanLock :
    ((writing 95 0 0 255 0 planned).Asks .a .planWrite (writeBody 95 0 0 255 0) ∧
      (writing 95 0 0 255 0 planned).plan.discard = none ∧ inUseBy (writing 95 0 0 255 0 planned) 95 = none) ∧
    ((writing 0 0 0 255 0 lingering).Asks .a .planWrite (writeBody 0 0 0 255 0) ∧
      (writing 0 0 0 255 0 lingering).plan.discard = none ∧ inUseBy (writing 0 0 0 255 0 lingering) 0 = some 0) ∧
    (let s := writing 0 0 0 255 0 (State.reset.setPlan { PlanBlock.fresh with lock := true })
     s.Asks .a .planWrite (writeBody 0 0 0 255 0) ∧ s.plan.discard = none ∧ s.plan.lock = true) ∧
    (let s := toStore (writing 95 0 0 255 0 planned) 5 (.release 95)
     s.Asks .a .planWrite (writeBody 95 0 0 255 0) ∧ s.plan.discard = none ∧ s.plan.lock = false ∧ inUseBy s 95 = none ∧
       allLanes.any (fun l => (s.mail.toStore.get l).any (concerns 95)) = true) ∧
    (asking planned .d .planLock []).Asks .d .planLock [] ∧ (asking planned .d .planLock []).plan.discard = none :=
  ⟨⟨asks (by decide), rfl, by decide⟩, ⟨asks (by decide), rfl, by decide⟩,
    ⟨asks (by decide), rfl, rfl⟩, ⟨asks (by decide), rfl, rfl, by decide⟩, asks (by decide), rfl⟩

/-- A PLAN_WRITE of an index waits for its discard, asked for by a port or by one whose link has gone down, and a memo is
tagged with index 95. -/
def discarding (x : PlanIndex) (asker : Option Port) : State :=
  let s := (attached planned .a).setMemo 3 { tag := some 95, pinned := true, fields := Params.absent }
  s.setPlan { s.plan with discard := some { index := x, answerTo := asker } }

theorem witness_PlanDiscardEmptiesTheMemo : ∀ asker ∈ [some Port.a, none],
    ((discarding 95 asker).Settled ∧ (∀ p, asker = some p → ((discarding 95 asker).port p).link = .attached) ∧
      (discarding 95 asker).plan.discard = some { index := 95, answerTo := asker } ∧
      ((discarding 95 asker).memo 3).tag = some 95 ∧ ∀ k, ((discarding 95 asker).memo k).tag = some 95 → k = 3) ∧
    ((discarding 0 asker).Settled ∧ (∀ p, asker = some p → ((discarding 0 asker).port p).link = .attached) ∧
      (discarding 0 asker).plan.discard = some { index := 0, answerTo := asker } ∧
      ∀ k, ((discarding 0 asker).memo k).tag ≠ some 0) := by
  intro asker h
  simp only [List.mem_cons, List.not_mem_nil, or_false] at h
  rcases h with rfl | rfl
  · exact ⟨⟨settled (by decide), everyPort (by decide), rfl, by decide, by decide⟩,
      settled (by decide), everyPort (by decide), rfl, by decide⟩
  · exact ⟨⟨settled (by decide), everyPort (by decide), rfl, by decide, by decide⟩,
      settled (by decide), everyPort (by decide), rfl, by decide⟩

/-- The body of an INSTALL_SET. -/
def installBody (moveInterval linger unsettle hold policy : Nat) : List Byte :=
  enc16 moveInterval ++ (enc16 linger ++ (enc16 unsettle ++ (enc8 hold ++ enc8 policy)))

/-- Values at and beyond the ends of their ranges, and a request with nothing given. -/
theorem witness_InstallSetStoresClampedValues :
    let low := installBody 0 0 0 0 0
    let high := installBody 60001 256 1001 61 1
    let nothing := installBody 0xFFFF 0xFFFF 0xFFFF 0xFF 0xFF
    (∀ body ∈ [low, high, nothing], (asking planned .b .installSet body).Asks .b .installSet body ∧
      (asking planned .b .installSet body).plan.discard = none ∧ (asking planned .b .installSet body).plan.lock = false ∧
      (∀ l, ((asking planned .b .installSet body).lane l).lingerStart = none) ∧
      ∀ q, ((asking planned .b .installSet body).port q).link ≠ .holding) ∧
    (InstallBody.read low).moveInterval = some 0 ∧ (InstallBody.read high).hold = some 61 ∧
    (InstallBody.read nothing) = { moveInterval := none, linger := none, unsettle := none, hold := none, policy := none } ∧
    (let s := asking (State.reset.setPlan { PlanBlock.fresh with lock := true }) .b .installSet high
     s.Asks .b .installSet high ∧ s.plan.discard = none ∧ s.plan.lock = true ∧ (∀ l, (s.lane l).lingerStart = none) ∧
       ∀ q, (s.port q).link ≠ .holding) := by
  refine ⟨fun body h => ?_, by decide, by decide, by decide, asks (by decide), rfl, rfl,
    by decide, everyPort (by decide)⟩
  simp only [List.mem_cons, List.not_mem_nil, or_false] at h
  rcases h with rfl | rfl | rfl <;>
    exact ⟨asks (by decide), rfl, rfl, by decide, everyPort (by decide)⟩

/-- A plain read, and a request that names the hold time as it stands, while a lane lingers and a port holds; under the
lock too. -/
theorem witness_InstallSetStoresClampedValues_unchanged :
    ∀ lock ∈ [false, true], ∀ hold ∈ [0xFF, 8],
      let body := installBody 0xFFFF 0xFFFF 0xFFFF hold 0xFF
      let s := asking ((lingering.setPlan { lingering.plan with lock := lock }).setPort .c
        { PortRec.fresh with link := .holding, holdStart := some 0 }) .b .installSet body
      s.Asks .b .installSet body ∧ s.plan.discard = none ∧ s.plan.lock = lock ∧
        settingAfter 0 255 s.plan.settings.linger (InstallBody.read body).linger = s.plan.settings.linger ∧
        settingAfter 1 60 s.plan.settings.hold (InstallBody.read body).hold = s.plan.settings.hold ∧
        (s.lane 0).lingerStart ≠ none ∧ (s.port .c).link = .holding := by
  intro lock hl hold hh
  simp only [List.mem_cons, List.not_mem_nil, or_false] at hl hh
  rcases hl with rfl | rfl <;> rcases hh with rfl | rfl <;>
    exact ⟨asks (by decide), rfl, rfl, by decide, by decide, by decide, rfl⟩

/-- Port C in HOLDING since time 0, and port A asks for a hold time of 5 s. -/
def shortening (now : Time) : State :=
  atTime (asking (planned.setPort .c { PortRec.fresh with link := .holding, attach := some .fresh, holdStart := some 0 })
    .a .installSet (installBody 0xFFFF 0xFFFF 0xFFFF 5 0xFF)) now

theorem witness_InstallSetStoresClampedValues_hold : ∀ now ∈ [(4999 : Time), 5000],
    let s := shortening now
    s.Asks .a .installSet (installBody 0xFFFF 0xFFFF 0xFFFF 5 0xFF) ∧ s.plan.discard = none ∧ s.plan.lock = false ∧
      s.mail.toAdm = [] ∧ (∀ l, (s.lane l).lingerStart = none) ∧ (s.port .a).link ≠ .holding ∧
      (InstallBody.read (installBody 0xFFFF 0xFFFF 0xFFFF 5 0xFF)).hold = some 5 ∧
      (recordAfter s.plan.settings (InstallBody.read (installBody 0xFFFF 0xFFFF 0xFFFF 5 0xFF))).hold ≠
        s.plan.settings.hold ∧ (s.port .c).link = .holding ∧ (s.port .c).holdStart = some 0 ∧
      [Port.a, .b, .c, .d].filter (overdue s 5) = if now = 5000 then [.c] else [] := by
  intro now h
  simp only [List.mem_cons, List.not_mem_nil, or_false] at h
  rcases h with rfl | rfl <;>
    exact ⟨asks (by decide), rfl, rfl, rfl, by decide, by decide, by decide, by decide, rfl, rfl, by decide⟩

theorem witness_LingerExpiriesFreeTheLane :
    (let s := atTime lingering 30000
     (s.lane 0).state ≠ .free ∧ (s.lane 0).channel = some 0 ∧ (s.lane 0).lingerStart = some 0 ∧
       s.plan.settings.linger * 1000 ≤ (s.now - 0).toNat ∧ s.fe.state = .active) ∧
    ∀ n ∈ [0, 5, 256],
      let body := installBody 0xFFFF n 0xFFFF 0xFF 0xFF
      let s := atTime (asking lingering .a .installSet body) 5000
      s.Asks .a .installSet body ∧ s.plan.discard = none ∧ s.plan.lock = false ∧ (∀ q, (s.port q).link ≠ .holding) ∧
        (InstallBody.read body).linger = some n ∧ min n 255 ≠ s.plan.settings.linger ∧ (s.lane 0).lingerStart = some 0 ∧
        (s.lane 1).lingerStart = none := by
  refine ⟨by decide, fun n h => ?_⟩
  simp only [List.mem_cons, List.not_mem_nil, or_false] at h
  rcases h with rfl | rfl | rfl <;>
    exact ⟨asks (by decide), rfl, rfl, everyPort (by decide), by decide, by decide,
      by decide, by decide⟩

/-! ## Witnesses: front end and feed -/

theorem witness_TargetLevelFollowsLanesAndDemands :
    ((∀ l, (State.reset.lane l).state = .free) ∧ State.reset.plan.settings.policy = .shallow) ∧
    (let s := State.reset.setPlan { PlanBlock.fresh with settings := { Settings.default with policy := .deep } }
     (∀ l, (s.lane l).state = .free) ∧ s.plan.settings.policy = .deep) := by decide

/-- A front end in some state over a lane that waits in WAIT and one that is LOCKED. -/
def busy (fe : FrontEnd) : State :=
  ((attached planned .b).setLane 0 (onChannel 0 (.acquire .wait))).setFe fe

theorem witness_CompletionsMakeTheInputUsable :
    (∀ now ∈ [(100 : Time), 0x80000063],
      let s := atTime (busy { FrontEnd.fresh with state := .waking, wakeEnd := some 100 }) now
      s.fe.state = .waking ∧ s.fe.wakeEnd = some 100 ∧ (s.now - 100).toNat < 2147483648) ∧
    ∀ now ∈ [(100 : Time), 0x80000063],
      let s := atTime (busy { FrontEnd.fresh with state := .retuning, retuneEnd := some 100 }) now
      (s.Settled ∧ s.fe.state = .retuning ∧ s.fe.retuneEnd = some 100 ∧ (s.now - 100).toNat < 2147483648 ∧
        ∃ l, (s.lane l).state ≠ .free) ∧
      let t := atTime ((attached planned .b).setFe
        { FrontEnd.fresh with state := .retuning, retuneEnd := some 100, activeSince := some 0 }) now
      t.Settled ∧ t.fe.state = .retuning ∧ t.fe.retuneEnd = some 100 ∧ (∀ l, (t.lane l).state = .free) ∧
        t.target = .idle := by
  constructor <;> intro now h <;> simp only [List.mem_cons, List.not_mem_nil, or_false] at h <;> rcases h with rfl | rfl
  · decide
  · decide
  · exact ⟨⟨settled (by decide), rfl, rfl, by decide, 0, by decide⟩, settled (by decide), rfl, rfl, by decide, by decide⟩
  · exact ⟨⟨settled (by decide), rfl, rfl, by decide, 0, by decide⟩, settled (by decide), rfl, rfl, by decide, by decide⟩

theorem witness_StampsAreDroppedAtTheirAge :
    (let s := atTime (State.reset.setFe { FrontEnd.fresh with state := .idle, idleSince := some 0 }) 110
     s.fe.state = .idle ∧ s.fe.idleSince = some 0 ∧ 110 ≤ (s.now - 0).toNat) ∧
    (let s := atTime (State.reset.setFe { FrontEnd.fresh with lastMove := some 0 }) 60000
     s.fe.lastMove = some 0 ∧ 60000 ≤ (s.now - 0).toNat) ∧
    (let s := atTime (State.reset.setFe { FrontEnd.fresh with lastRestore := some 0 }) 1001
     s.fe.lastRestore = some 0 ∧ 1000 < (s.now - 0).toNat) ∧
    (let s := fun st : FrontEndState =>
       atTime ((attached State.reset .a).setFe { FrontEnd.fresh with state := st, activeSince := some 0 }) 2000
     (s .retuning).fe.activeSince = some 0 ∧ 2000 ≤ ((s .retuning).now - 0).toNat ∧ (s .retuning).fe.state = .retuning ∧
       (s .active).fe.activeSince = some 0 ∧ (s .active).target = .idle) ∧
    (let s := atTime (State.reset.setFe { FrontEnd.fresh with state := .active, activeSince := some 0 }) 2000
     s.fe.state = .active ∧ s.target = .off) ∧
    (let s := atTime (busy { FrontEnd.fresh with state := .active, activeSince := some 0 }) 2000
     s.fe.state = .active ∧ s.target = .active) := by decide

theorem witness_AttenuatorStepsOnClipAndQuiet :
    ∀ a ∈ [0, 28, 30], ∀ st ∈ [FrontEndState.active, .retuning],
      let s := State.reset.setFe { FrontEnd.fresh with state := st, attenuator := a, quiet := 60000 }
      (s.fe.state = .active ∨ s.fe.state = .retuning) ∧ s.fe.clipMute = 0 ∧ s.fe.attenuator ≤ 30 ∧
        60000 ≤ s.fe.quiet := by decide

/-- The feed in a state, over a lane in HOLDOFF(FEED) and a lane that waits. -/
def fed (feed : FeedState) (retryCount : Nat) (lastRestore : Option Time) : State :=
  ((busy { FrontEnd.fresh with
    state := .active, feed, retryCount, lastRestore, feedWaitEnd := if feed = .faultWait then some 1000 else none }).setLane 1
      { onChannel 1 (.holdoff .feed) with memo := some 1 })

theorem witness_FeedSetFollowsItsTable :
    ∀ feed ∈ [FeedState.off, .on, .faultWait, .latched], ∀ code ∈ [(0 : Byte), 1, 2],
      (asking (fed feed 3 (some 5)) .d .feedSet [code]).Asks .d .feedSet [code] := by
  intro feed hf code hc
  simp only [List.mem_cons, List.not_mem_nil, or_false] at hf hc
  rcases hf with rfl | rfl | rfl | rfl <;> rcases hc with rfl | rfl | rfl <;> exact asks (by decide)

/-- No restore yet; a restore 1,000 ms ago with count 2 and 3; a restore 1,001 ms ago; and a wait that has run out. -/
theorem witness_FaultsCutAndRestoreTheFeed :
    (∀ s ∈ [fed .on 0 none, atTime (fed .on 2 (some 5)) 1005, atTime (fed .on 3 (some 5)) 1005,
        atTime (fed .on 3 (some 5)) 1006], s.Settled ∧ s.fe.feed = .on) ∧
    ∀ now ∈ [(1000 : Time), 0x800003E7],
      let s := atTime (fed .faultWait 2 (some 5)) now
      s.Settled ∧ s.fe.feed = .faultWait ∧ s.fe.feedWaitEnd = some 1000 ∧ (s.now - 1000).toNat < 2147483648 := by
  constructor
  · intro s h
    simp only [List.mem_cons, List.not_mem_nil, or_false] at h
    rcases h with rfl | rfl | rfl | rfl <;> exact ⟨settled (by decide), rfl⟩
  · intro now h
    simp only [List.mem_cons, List.not_mem_nil, or_false] at h
    rcases h with rfl | rfl <;> exact ⟨settled (by decide), rfl, rfl, by decide⟩

/-! ## Witnesses: the memo store -/

/-- A store in which memo 2 is tagged with index 0 and memo 15 with index 95, with a lane counted in use or not. -/
def tagged (held : Option PlanIndex) : State :=
  let s := (planned.setMemo 2 { tag := some 0, pinned := true, fields := Params.absent }).setMemo 15
    { tag := some 95, pinned := false, fields := { Params.absent with streamRate := some 9 } }
  s.setStore { s.store with inUse := Tab.put s.store.inUse 4 held }

/-- A store whose every memo is pinned. -/
def allPinned : State := State.reset.setStore { MemoStore.fresh with
  memos := Vector.ofFn (fun m =>
    { tag := some ⟨m.val + 1, Nat.lt_trans (Nat.succ_lt_succ m.isLt) (by decide)⟩, pinned := true
      fields := Params.absent }) }

theorem witness_VictimIsTheLeastRecentFreeMemo :
    State.reset.victim = some 0 ∧ allPinned.victim = none ∧ (tagged (some 95)).memoHeld 15 = true ∧
      (tagged none).memoHeld 15 = false := by decide

/-- A lookup that hits, one that misses with a victim, and one that misses without. -/
theorem witness_LookupHitsAllocatesOrFails :
    (let s := toStore (tagged none) 5 (.lookup 95)
     s.mail.toStore.get 5 = .lookup 95 :: [] ∧ (s.memo 15).tag = some 95 ∧ ∀ k, (s.memo k).tag = some 95 → k = 15) ∧
    (let s := toStore (tagged none) 5 (.lookup 1)
     s.mail.toStore.get 5 = .lookup 1 :: [] ∧ (∀ k, (s.memo k).tag ≠ some 1) ∧
       { s with store := { s.store with inUse := Tab.put s.store.inUse 5 (some 1) } }.victim = some 0) ∧
    (let s := toStore allPinned 5 (.lookup 0)
     s.mail.toStore.get 5 = .lookup 0 :: [] ∧ (∀ k, (s.memo k).tag ≠ some 0) ∧
       { s with store := { s.store with inUse := Tab.put s.store.inUse 5 (some 0) } }.victim = none) := by decide

theorem witness_StoreTakesLaneMessages :
    (toStore State.reset 0 (.lock 15)).mail.toStore.get 0 = .lock 15 :: [] ∧
    (toStore State.reset 0 (.release 95)).mail.toStore.get 0 = .release 95 :: [] ∧
    (let s := toStore (tagged none) 5 (.restart 95 Params.absent)
     s.mail.toStore.get 5 = .restart 95 Params.absent :: [] ∧ (s.memo 15).tag = some 95 ∧
       ∀ k, (s.memo k).tag = some 95 → k = 15) ∧
    (let s := toStore (tagged none) 5 (.restart 1 Params.absent)
     s.mail.toStore.get 5 = .restart 1 Params.absent :: [] ∧ (∀ k, (s.memo k).tag ≠ some 1) ∧ s.victim = some 0) ∧
    (let s := toStore allPinned 5 (.restart 0 Params.absent)
     s.mail.toStore.get 5 = .restart 0 Params.absent :: [] ∧ (∀ k, (s.memo k).tag ≠ some 0) ∧ s.victim = none) ∧
    (let s := toStore ((tagged (some 95)).setLane 4 (onChannel 95 .locked)) 5 (.restart 95 Params.absent)
     s.mail.toStore.get 5 = .restart 95 Params.absent :: [] ∧ (s.memo 15).tag = some 95 ∧
       ∃ k, k ≠ 5 ∧ (s.lane k).channel = some 95 ∧ s.store.inUse.get k = some 95) := by
  decide

/-- Index 96; an absent entry; the channel's memo; a victim allocated; and no victim. -/
theorem witness_MemoPinPinsOrAllocates :
    ((asking planned .b .memoPin [96]).Asks .b .memoPin [96] ∧ 95 < byteAt [96] 0) ∧
    ((asking planned .b .memoPin [95]).Asks .b .memoPin [95] ∧ byteAt [95] 0 = (95 : PlanIndex).val ∧
      (asking planned .b .memoPin [95]).entry 95 = none) ∧
    (let s := asking (tagged none) .b .memoPin [0]
     s.Asks .b .memoPin [0] ∧ byteAt [0] 0 = (0 : PlanIndex).val ∧ (s.entry 0).isSome ∧ (s.memo 2).tag = some 0 ∧
       ∀ k, (s.memo k).tag = some 0 → k = 2) ∧
    (let s := asking (tagged none) .b .memoPin [1]
     s.Asks .b .memoPin [1] ∧ byteAt [1] 0 = (1 : PlanIndex).val ∧ (s.entry 1).isSome ∧
       (∀ k, (s.memo k).tag ≠ some 1) ∧ s.victim = some 0) ∧
    (let s := asking (allPinned.setPlan planned.plan) .b .memoPin [0]
     s.Asks .b .memoPin [0] ∧ (s.entry 0).isSome ∧ (∀ k, (s.memo k).tag ≠ some 0) ∧ s.victim = none) :=
  ⟨⟨asks (by decide), by decide⟩, ⟨asks (by decide), by decide, by decide⟩, ⟨asks (by decide), by decide⟩,
    ⟨asks (by decide), by decide⟩, asks (by decide), by decide⟩

theorem witness_MemoUnpinAndReleaseAllClearPins :
    ((asking planned .c .memoUnpin [96]).Asks .c .memoUnpin [96] ∧ 95 < byteAt [96] 0) ∧
    (let s := asking (tagged none) .c .memoUnpin [1]
     s.Asks .c .memoUnpin [1] ∧ byteAt [1] 0 = (1 : PlanIndex).val ∧ ∀ k, (s.memo k).tag ≠ some 1) ∧
    (let s := asking (tagged none) .c .memoUnpin [95]
     s.Asks .c .memoUnpin [95] ∧ byteAt [95] 0 = (95 : PlanIndex).val ∧ (s.memo 15).tag = some 95 ∧
       ∀ k, (s.memo k).tag = some 95 → k = 15) ∧
    (asking allPinned .c .memoReleaseAll []).Asks .c .memoReleaseAll [] :=
  ⟨⟨asks (by decide), by decide⟩, ⟨asks (by decide), by decide⟩, ⟨asks (by decide), by decide⟩, asks (by decide)⟩

theorem witness_MemoFlushesEmptyTheStore :
    (asking (tagged (some 95)) .c .memoFlush []).Asks .c .memoFlush [] ∧
      (asking (tagged (some 95)) .c .memoFlushUnpinned []).Asks .c .memoFlushUnpinned [] :=
  ⟨asks (by decide), asks (by decide)⟩

/-- The body of a MEMO_SEED with an offset, a mode code, a cell and nothing else given. -/
def seedBody (index offset mode cell : Nat) : List Byte :=
  enc8 index ++ (enc16 offset ++ (enc8 mode ++ ([0xFF, 0xFF, 0xFF] ++ enc32 cell)))

/-- Index 96 and 95, codes at and beyond the ends of their sets, and the three answers. -/
theorem witness_MemoSeedWritesTheGivenFields :
    ((asking (tagged none) .a .memoSeed (seedBody 96 0 0 0)).Asks .a .memoSeed (seedBody 96 0 0 0) ∧
      95 < byteAt (seedBody 96 0 0 0) 0) ∧
    ((asking (tagged none) .a .memoSeed (seedBody 95 0 3 0)).Asks .a .memoSeed (seedBody 95 0 3 0) ∧
      SeedBody.read (seedBody 95 0 3 0) = none) ∧
    SeedBody.read (seedBody 95 0 0 65536) = none ∧
    SeedBody.read (seedBody 95 32267 2 65535) = some
      { offset := some (-500), mode := some .l, guard := none, constellation := none, codeRate := none
        cell := some 65535 } ∧
    (let s := asking (tagged none) .a .memoSeed (seedBody 1 33268 0 0)
     s.Asks .a .memoSeed (seedBody 1 33268 0 0) ∧ (SeedBody.read (seedBody 1 33268 0 0)).isSome ∧
       ∀ k, (s.memo k).tag ≠ some 1) ∧
    (let s := asking (tagged (some 95)) .a .memoSeed (seedBody 95 33269 0 0)
     s.Asks .a .memoSeed (seedBody 95 33269 0 0) ∧ (SeedBody.read (seedBody 95 33269 0 0)).isSome ∧
       (s.memo 15).tag = some 95 ∧ (∀ k, (s.memo k).tag = some 95 → k = 15) ∧ s.inUseLane 95 = some 4) ∧
    (let s := asking (tagged none) .a .memoSeed (seedBody 95 0xFFFF 0xFF 0xFFFFFFFF)
     s.Asks .a .memoSeed (seedBody 95 0xFFFF 0xFF 0xFFFFFFFF) ∧ (s.memo 15).tag = some 95 ∧
       (SeedBody.read (seedBody 95 0xFFFF 0xFF 0xFFFFFFFF)).isSome ∧
       (∀ k, (s.memo k).tag = some 95 → k = 15) ∧ ∀ l, s.store.inUse.get l ≠ some 95) :=
  ⟨⟨asks (by decide), by decide⟩, ⟨asks (by decide), by decide⟩, by decide +kernel, by decide +kernel, ⟨asks (by decide), by decide⟩,
    ⟨asks (by decide), by decide⟩, asks (by decide), by decide⟩

/-- Index 96 and 95 at PLAN_READ and MEMO_READ, with and without a lane or a memo of the index. -/
theorem witness_ReadsAnswerAndChangeNothing :
    (∀ x ∈ [(96 : Nat), 95, 0], (asking lingering .d .planRead (enc8 x)).Asks .d .planRead (enc8 x) ∧
      (asking lingering .d .planRead (enc8 x)).plan.discard = none) ∧
    ((lingering.lane 0).state ≠ .free ∧ (lingering.lane 0).channel = some 0 ∧
      (∀ k, (lingering.lane k).state ≠ .free → (lingering.lane k).channel = some 0 → k = 0)) ∧
    (∀ l, (lingering.lane l).channel = some 95 → (lingering.lane l).state = .free) ∧
    (∀ x ∈ [(96 : Nat), 95, 0], (asking (tagged none) .d .memoRead (enc8 x)).Asks .d .memoRead (enc8 x)) ∧
    ((∀ k, ((tagged none).memo k).tag ≠ some 1) ∧ ((tagged none).memo 15).tag = some 95 ∧
      ∀ k, ((tagged none).memo k).tag = some 95 → k = 15) ∧
    (asking (tagged none) .d .memoSnapshot []).Asks .d .memoSnapshot [] ∧
    (asking majorFull .d .logRead [1]).Asks .d .logRead [1] := by
  refine ⟨fun x h => ?_, by decide, by decide, fun x h => ?_, by decide, asks (by decide), asks (by decide)⟩ <;>
    simp only [List.mem_cons, List.not_mem_nil, or_false] at h
  · rcases h with rfl | rfl | rfl <;> exact ⟨asks (by decide), rfl⟩
  · rcases h with rfl | rfl | rfl <;> exact asks (by decide)

/-- Each variant, with its codes at the last value of the set and beyond it. -/
theorem witness_StatusAnswersItsVariant :
    let s := shared .d 35245
    (∀ body ∈ [[(0 : Byte), 4, 0], [0, 3, 6], [0, 3, 5], [0, 3, 0], [1, 6, 0], [1, 5, 0], [2, 9, 9], [3, 4, 0],
      [3, 3, 0]], (asking s .b .status body).Asks .b .status body) ∧
    s.sub .d 5 = none ∧ (s.sub .d 0).isSome := by
  refine ⟨fun body h => ?_, by decide⟩
  simp only [List.mem_cons, List.not_mem_nil, or_false] at h
  rcases h with rfl | rfl | rfl | rfl | rfl | rfl | rfl | rfl | rfl <;> exact asks (by decide)

/-! ## Witnesses: capacity arithmetic -/

/-- The capacity and window clauses at their ends; a span one raster step above the bound; and a slack of 1,000, the least
above 750 on the 250 kHz raster. -/
theorem witness_CapacityArithmeticIsExact :
    (roundCapacity 9999 = 10000 ∧ roundCapacity 10000 = 10000 ∧ roundCapacity 200999 = 200000 ∧
      roundCapacity 201000 = 200000) ∧
    (roundWindow 159999 = 160000 ∧ roundWindow 160000 = 160000 ∧ roundWindow 624999 = 624000 ∧
      roundWindow 625000 = 624000) ∧
    (let e := fun f => ({ centre := f, bandwidth := .b8, label := none } : PlanEntry)
     ∃ low high, spans low high [e 505000, e 745250] ∧ 256000 < high - low + 8000) ∧
    (let e := fun f => ({ centre := f, bandwidth := .b8, label := none } : PlanEntry)
     ∃ low high, spans low high [e 505000, e 744000] ∧ high - low + 8000 + 750 < 256000 ∧
       ∀ x ∈ [e 505000, e 744000], x.centre % 250 = 0 ∧ 164000 + x.bandwidth.khz / 2 ≤ x.centre ∧
         x.centre + x.bandwidth.khz / 2 ≤ 876000) ∧
    (let e := fun f => ({ centre := f, bandwidth := .b8, label := none } : PlanEntry)
     (spans 501000 748250 [e 505000, e 744250] ∧ 748250 - 501000 + 8000 ≤ 256000 ∧
       (¬ ∀ x ∈ [e 505000, e 744250], fits 496000 x = true) ∧ ∀ x ∈ [e 505000, e 744250], fits 497000 x = true) ∧
     (spans 500750 748250 [e 504750, e 744250] ∧ 748250 - 500750 + 8000 ≤ 256000 ∧
       (¬ ∀ x ∈ [e 504750, e 744250], fits 496000 x = true) ∧
       ¬ ∀ x ∈ [e 504750, e 744250], fits 497000 x = true)) ∧
    channel0 ∈ (shared .b 35245).sharedEntries := by
  refine ⟨by decide, by decide, ⟨501000, 749250, ?_⟩, ⟨501000, 748000, ?_⟩, ?_, by decide⟩
  · unfold spans; decide
  · unfold spans; decide
  · unfold spans; decide

/-! ## Witnesses: admission requests -/

/-- A and C both ask; D was served last, so A is granted and C is not. -/
theorem witness_ArbiterTakesPortsInTurn :
    (let s := asking (asking planned .c .portReset []) .a .subscribe [0, 0, 0, 0]
     s.arbiterChoice = some .a ∧ s.arbiterChoice ≠ some .c ∧ s.granted .a .subscribe = some [0, 0, 0, 0] ∧
       s.plan.discard = none ∧ answers (.subscribe .a) s (fun t => decide (t.adm.lastServed = .a)) = true) ∧
    State.reset.arbiterChoice = none ∧
    (let s := asking (asking (planned.setPlan { planned.plan with discard := some { index := 0, answerTo := none } })
       .c .portReset []) .a .subscribe [0, 0, 0, 0]
     s.headBody .a .subscribe = some [0, 0, 0, 0] ∧ s.waitsAtArbiter .a = false ∧ s.arbiterChoice = some .c) := by decide

/-- The plan of chapter 2's examples: at 2, 745,500 kHz / 7 MHz; at 3, 482,000 kHz / 8 MHz; at 4, 746,000 kHz / 8 MHz. -/
def far : State := planned.setPlan { planned.plan with
  entries := Tab.put (Tab.put (Tab.put planned.plan.entries
    2 (some { centre := 745500, bandwidth := .b7, label := none }))
    3 (some { centre := 482000, bandwidth := .b8, label := none }))
    4 (some { centre := 746000, bandwidth := .b8, label := none }) }

/-- Lanes 0 to `n - 1` LOCKED on indices 10, 11, …, each with the share count given. -/
def crowded (n share : Nat) : State :=
  let s := planned.setFe { FrontEnd.fresh with state := .active }
  { s with
    lanes := Vector.ofFn (fun l => if l.val < n then onChannel ⟨l.val + 10, by omega⟩ .locked else Lane.fresh)
    adm := { s.adm with lanes := Vector.ofFn (fun l =>
      if l.val < n then { channel := some ⟨l.val + 10, by omega⟩, share := share, rate := none, seen := .locked }
      else AdmLane.fresh) } }

/-- What a port is committed to. -/
def committed (s : State) (p : Port) (n : Nat) : State := s.setAdmPort p { s.admPort p with committed := n }

/-- A SUBSCRIBE of index 0 at port B, MARK, with an empty list. -/
def subscribing (s : State) : State := asking s .b .subscribe [0, 0, 0, 0]

theorem subscribing_reads :
    SubscribeBody.read [0, 0, 0, 0] = some { index := 0, allowMove := false, mode := .mark, pids := [] } := by decide

/-- The channel's lane is shared, at exactly the capacity. -/
theorem witness_SubscribeJoinsOrTakesALane_share :
    let s := committed (subscribing lingering) .b 64755
    Eligible s .b [0, 0, 0, 0] { index := 0, allowMove := false, mode := .mark, pids := [] } channel0 0 ∧
      fits s.fe.window channel0 = true ∧ (s.lane 0).state ≠ .free ∧ (s.lane 0).channel = some 0 ∧
      (∀ k, (s.lane k).state ≠ .free → (s.lane k).channel = some 0 → k = 0) ∧
      (s.admPort .b).committed + linkLoad ((s.admLane 0).rate.getD (provisionalRate .b8)) = (s.admPort .b).capacity :=
  ⟨⟨asksAdmission (by decide), subscribing_reads, rfl, everySub (by decide), rfl, by decide⟩, by decide⟩

/-- The last lane is the only FREE one. -/
theorem witness_SubscribeJoinsOrTakesALane_free :
    let s := committed (subscribing (crowded 5 1)) .b 64755
    Eligible s .b [0, 0, 0, 0] { index := 0, allowMove := false, mode := .mark, pids := [] } channel0 0 ∧
      fits s.fe.window channel0 = true ∧ (∀ k, (s.lane k).state ≠ .free → (s.lane k).channel ≠ some 0) ∧
      MemoRate s 0 none ∧ (s.admPort .b).committed + linkLoad (provisionalRate .b8) = (s.admPort .b).capacity ∧
      (s.lane 5).state = .free ∧ ∀ k, k < 5 → (s.lane k).state ≠ .free :=
  ⟨⟨asksAdmission (by decide), subscribing_reads, rfl, everySub (by decide), rfl, by decide⟩, by decide, by decide,
    ⟨by decide, by decide⟩, by decide⟩

/-- Six lanes linger for equally long, and a memo of the channel holds a rate. -/
theorem witness_SubscribeJoinsOrTakesALane_reclaim :
    let s := (subscribing (crowded 6 0)).setMemo 9
      { tag := some 0, pinned := false, fields := { Params.absent with streamRate := some 24403 } }
    Eligible s .b [0, 0, 0, 0] { index := 0, allowMove := false, mode := .mark, pids := [] } channel0 0 ∧
      fits s.fe.window channel0 = true ∧ (∀ k, (s.lane k).state ≠ .free → (s.lane k).channel ≠ some 0) ∧
      MemoRate s 0 (some 24403) ∧ (s.admPort .b).committed + linkLoad 24403 ≤ (s.admPort .b).capacity ∧
      (∀ k, (s.lane k).state ≠ .free) ∧ (s.admLane 0).share = 0 ∧
      (∀ k, (s.admLane k).share = 0 → k ≠ 0 →
        s.lingerAge k < s.lingerAge 0 ∨ (s.lingerAge k = s.lingerAge 0 ∧ 0 < k)) ∧ (s.lane 0).channel = some 10 :=
  ⟨⟨asksAdmission (by decide), subscribing_reads, rfl, everySub (by decide), rfl, by decide⟩, by decide, by decide,
    ⟨by decide, by decide⟩, by decide⟩

/-- The range check: index 96, mode 2, 17 PIDs, PID 8192. -/
theorem witness_SubscribeRefusalsComeInOrder_range :
    (∀ body ∈ [[(96 : Byte), 0, 0, 0], [0, 0, 2, 0], [0, 0, 0, 17], [0, 0, 0, 1, 0x20, 0]],
      (asking planned .d .subscribe body).AsksAdmission .d .subscribe body ∧
      (asking planned .d .subscribe body).plan.discard = none) ∧
    95 < byteAt [96, 0, 0, 0] 0 ∧ 1 < byteAt [0, 0, 2, 0] 2 ∧ 16 < byteAt [0, 0, 0, 17] 3 ∧
    (∃ x ∈ pidsAt [0, 0, 0, 1, 0x20, 0] 4 1, 8191 < x) := by
  refine ⟨fun body h => ?_, by decide⟩
  simp only [List.mem_cons, List.not_mem_nil, or_false] at h
  rcases h with rfl | rfl | rfl | rfl <;> exact ⟨asksAdmission (by decide), rfl⟩

/-- An index without an entry; an index held; and six ids in use. -/
theorem witness_SubscribeRefusalsComeInOrder_table :
    (let s := asking planned .b .subscribe [95, 0, 0, 0]
     s.AsksAdmission .b .subscribe [95, 0, 0, 0] ∧ s.plan.discard = none ∧ s.entry 95 = none ∧
       SubscribeBody.read [95, 0, 0, 0] = some { index := 95, allowMove := false, mode := .mark, pids := [] }) ∧
    (let s := subscribing ((shared .a 1).setSub .b 5 (some (sub 0 0 1)))
     s.AsksAdmission .b .subscribe [0, 0, 0, 0] ∧ s.plan.discard = none ∧ s.entry 0 ≠ none ∧
       (s.sub .b 5).map Sub.channel = some 0 ∧ ∀ j, j < 5 → (s.sub .b j).map Sub.channel ≠ some 0) ∧
    (let s := (subscribing planned).setAdmPort .b
       { AdmPort.fresh with subs := Vector.ofFn (fun i => some (sub ⟨i.val + 10, by omega⟩ i 1)) }
     s.AsksAdmission .b .subscribe [0, 0, 0, 0] ∧ s.entry 0 ≠ none ∧ (∀ i, s.sub .b i ≠ none) ∧
       ∀ i, (s.sub .b i).map Sub.channel ≠ some 0) :=
  ⟨⟨asksAdmission (by decide), rfl, rfl, by decide⟩, ⟨asksAdmission (by decide), rfl, by decide⟩,
    asksAdmission (by decide), by decide⟩

/-- A lane LOCKED on an index and shared, over the plan `far`. -/
def farLane (l : LaneId) (x : PlanIndex) (s : State) : State :=
  (s.setLane l (onChannel x .locked)).setAdmLane l { channel := some x, share := 1, rate := none, seen := .locked }

/-- 2.7.2: no placement; then 2.7.1 without allow-move, during a retune, and 9,999 ms after the last move. -/
theorem witness_SubscribeRefusalsComeInOrder_window :
    (let s := asking (farLane 0 3 (farLane 1 1 far)) .b .subscribe [4, 1, 0, 0]
     Eligible s .b [4, 1, 0, 0] { index := 4, allowMove := true, mode := .mark, pids := [] }
         { centre := 746000, bandwidth := .b8, label := none } 0 ∧
       fits s.fe.window { centre := 746000, bandwidth := .b8, label := none } = false ∧
       placement { centre := 746000, bandwidth := .b8, label := none } s.sharedEntries = none) ∧
    (let s := asking (farLane 0 0 (farLane 1 1 far)) .b .subscribe [2, 0, 0, 0]
     Eligible s .b [2, 0, 0, 0] { index := 2, allowMove := false, mode := .mark, pids := [] }
         { centre := 745500, bandwidth := .b7, label := none } 0 ∧
       fits s.fe.window { centre := 745500, bandwidth := .b7, label := none } = false ∧
       placement { centre := 745500, bandwidth := .b7, label := none } s.sharedEntries = some 505000 ∧
       ∃ l, 0 < (s.admLane l).share) ∧
    (∀ fe ∈ [{ FrontEnd.fresh with state := .retuning, retuneEnd := some 10010 },
        { FrontEnd.fresh with state := .active, lastMove := some 0 }],
      let s := atTime (asking ((farLane 0 0 (farLane 1 1 far)).setFe fe) .b .subscribe [2, 1, 0, 0]) 9999
      Eligible s .b [2, 1, 0, 0] { index := 2, allowMove := true, mode := .mark, pids := [] }
          { centre := 745500, bandwidth := .b7, label := none } 0 ∧
        fits s.fe.window { centre := 745500, bandwidth := .b7, label := none } = false ∧
        placement { centre := 745500, bandwidth := .b7, label := none } s.sharedEntries = some 505000 ∧
        (∃ l, 0 < (s.admLane l).share) ∧
        (s.fe.state = .retuning ∨ (s.fe.lastMove = some 0 ∧ (s.now - 0).toNat < s.plan.settings.moveInterval))) := by
  refine ⟨⟨⟨asksAdmission (by decide), by decide, rfl, everySub (by decide), rfl, by decide⟩, by decide⟩,
    ⟨⟨asksAdmission (by decide), by decide, rfl, everySub (by decide), rfl, by decide⟩, by decide⟩, fun fe h => ?_⟩
  simp only [List.mem_cons, List.not_mem_nil, or_false] at h
  rcases h with rfl | rfl <;>
    exact ⟨⟨asksAdmission (by decide), by decide, rfl, everySub (by decide), rfl, by decide⟩, by decide⟩

/-- Six shared lanes; and a load one above the capacity, on the channel's lane and on a FREE one. -/
theorem witness_SubscribeRefusalsComeInOrder_load :
    (let s := subscribing (crowded 6 1)
     Eligible s .b [0, 0, 0, 0] { index := 0, allowMove := false, mode := .mark, pids := [] } channel0 0 ∧
       fits s.fe.window channel0 = true ∧
       ∀ l, (s.lane l).state ≠ .free ∧ 0 < (s.admLane l).share ∧ (s.lane l).channel ≠ some 0) ∧
    (let s := committed (subscribing lingering) .b 64756
     Eligible s .b [0, 0, 0, 0] { index := 0, allowMove := false, mode := .mark, pids := [] } channel0 0 ∧
       fits s.fe.window channel0 = true ∧ (s.lane 0).channel = some 0 ∧
       (∀ k, (s.lane k).state ≠ .free → (s.lane k).channel = some 0 → k = 0) ∧
       (s.admPort .b).capacity < (s.admPort .b).committed + linkLoad ((s.admLane 0).rate.getD (provisionalRate .b8))) ∧
    (let s := committed (subscribing planned) .b 64756
     Eligible s .b [0, 0, 0, 0] { index := 0, allowMove := false, mode := .mark, pids := [] } channel0 0 ∧
       fits s.fe.window channel0 = true ∧ (∀ k, (s.lane k).state ≠ .free → (s.lane k).channel ≠ some 0) ∧
       (∃ l, (s.lane l).state = .free ∨ (s.admLane l).share = 0) ∧ MemoRate s 0 none ∧
       (s.admPort .b).capacity < (s.admPort .b).committed + linkLoad (provisionalRate .b8)) :=
  ⟨⟨⟨asksAdmission (by decide), subscribing_reads, rfl, everySub (by decide), rfl, by decide⟩, by decide⟩,
    ⟨⟨asksAdmission (by decide), subscribing_reads, rfl, everySub (by decide), rfl, by decide⟩, by decide⟩,
    ⟨asksAdmission (by decide), subscribing_reads, rfl, everySub (by decide), rfl, by decide⟩, by decide, by decide,
    by decide, ⟨by decide, by decide⟩, by decide⟩

/-- Every lane LOCKED on a channel at 522,000 kHz, over the plan `far`; lane 5 is shared, the others as given. -/
def sixOn (share : Nat) : State :=
  let full := (crowded 6 share).setPlan { far.plan with
    entries := Vector.ofFn (fun x => if 10 ≤ x.val then some channel0 else far.plan.entries.get x) }
  full.setAdmLane 5 { channel := some 15, share := 1, rate := none, seen := .locked }

/-- A move to 505,000 is pending: no lane is FREE, lingers or is released by it; and a load one above the capacity. -/
theorem witness_SubscribeRefusalsComeInOrder_pending :
    (let s := asking (sixOn 1) .b .subscribe [2, 1, 0, 0]
     Eligible s .b [2, 1, 0, 0] { index := 2, allowMove := true, mode := .mark, pids := [] }
         { centre := 745500, bandwidth := .b7, label := none } 0 ∧
       fits s.fe.window { centre := 745500, bandwidth := .b7, label := none } = false ∧
       placement { centre := 745500, bandwidth := .b7, label := none } s.sharedEntries = some 505000 ∧
       (s.fe.state ≠ .retuning ∧ s.fe.lastMove = none) ∧
       (∀ k, (s.lane k).state ≠ .free → (s.lane k).channel ≠ some 2) ∧
       ∀ l, (s.lane l).state ≠ .free ∧ 0 < (s.admLane l).share) ∧
    (let s := committed (asking (sixOn 0) .b .subscribe [2, 1, 0, 0]) .b 69162
     Eligible s .b [2, 1, 0, 0] { index := 2, allowMove := true, mode := .mark, pids := [] }
         { centre := 745500, bandwidth := .b7, label := none } 0 ∧
       fits s.fe.window { centre := 745500, bandwidth := .b7, label := none } = false ∧
       placement { centre := 745500, bandwidth := .b7, label := none } s.sharedEntries = some 505000 ∧
       (∃ l, (s.lane l).state = .free ∨ (s.admLane l).share = 0) ∧ MemoRate s 2 none ∧
       (s.admPort .b).capacity + 1 = (s.admPort .b).committed + linkLoad (provisionalRate .b7)) :=
  ⟨⟨⟨asksAdmission (by decide), by decide, rfl, everySub (by decide), rfl, by decide⟩, by decide⟩,
    ⟨asksAdmission (by decide), by decide, rfl, everySub (by decide), rfl, by decide⟩, by decide, by decide,
    by decide, ⟨by decide, by decide⟩, by decide⟩

/-- Every lane but one lingers, fits the new position too, and has lingered for equally long: lane 0 is reclaimed. -/
theorem witness_SubscribeMovesTheWindow_reclaim :
    let s := asking (sixOn 0) .b .subscribe [2, 1, 0, 0]
    Eligible s .b [2, 1, 0, 0] { index := 2, allowMove := true, mode := .mark, pids := [] }
        { centre := 745500, bandwidth := .b7, label := none } 0 ∧
      fits s.fe.window { centre := 745500, bandwidth := .b7, label := none } = false ∧
      placement { centre := 745500, bandwidth := .b7, label := none } s.sharedEntries = some 505000 ∧
      MoveAllowed s true ∧ (∀ k, (s.lane k).state ≠ .free → (s.lane k).channel ≠ some 2) ∧
      ((∀ k, ¬ ((s.lane k).state = .free ∨ leaves s 505000 k = true)) ∧ (s.admLane 0).share = 0 ∧
        (s.lane 0).channel.isSome ∧ ∀ k, (s.admLane k).share = 0 → k ≠ 0 →
          s.lingerAge k < s.lingerAge 0 ∨ (s.lingerAge k = s.lingerAge 0 ∧ 0 < k)) ∧
      MemoRate s 2 none ∧ (s.admPort .b).committed + linkLoad (provisionalRate .b7) ≤ (s.admPort .b).capacity :=
  ⟨⟨asksAdmission (by decide), by decide, rfl, everySub (by decide), rfl, by decide⟩, by decide, by decide,
    ⟨by decide, .inr ⟨rfl, fun _ h => by cases h⟩⟩, by decide, by decide, ⟨by decide, by decide⟩, by decide⟩

/-- 11.3: lanes 0 and 1 shared, lane 2 lingering on 3, the last move 10,000 ms ago; the move to 505,000 releases lane 2. -/
theorem witness_SubscribeMovesTheWindow :
    let s := atTime (asking (((farLane 0 0 (farLane 1 1 far)).setLane 2 (onChannel 3 .locked)).setFe
      { FrontEnd.fresh with state := .active, lastMove := some 0 }) .a .subscribe [2, 1, 0, 0]) 10000
    Eligible s .a [2, 1, 0, 0] { index := 2, allowMove := true, mode := .mark, pids := [] }
        { centre := 745500, bandwidth := .b7, label := none } 0 ∧
      fits s.fe.window { centre := 745500, bandwidth := .b7, label := none } = false ∧
      placement { centre := 745500, bandwidth := .b7, label := none } s.sharedEntries = some 505000 ∧
      MoveAllowed s true ∧ (∀ k, (s.lane k).state ≠ .free → (s.lane k).channel ≠ some 2) ∧
      ((s.lane 2).state = .free ∨ leaves s 505000 2 = true) ∧
      (∀ k, k < 2 → ¬ ((s.lane k).state = .free ∨ leaves s 505000 k = true)) ∧
      MemoRate s 2 none ∧ (s.admPort .a).committed + linkLoad (provisionalRate .b7) ≤ (s.admPort .a).capacity := by
  refine ⟨⟨asksAdmission (by decide), by decide, rfl, everySub (by decide), rfl, by decide⟩, by decide, by decide,
    ⟨by decide, .inr ⟨rfl, fun t0 h => ?_⟩⟩, by decide, by decide, by decide, ⟨by decide, by decide⟩, by decide⟩
  cases h
  decide

/-- The same without a shared lane, where neither flag nor stamp counts. -/
theorem witness_SubscribeMovesTheWindow_unshared :
    let s := asking far .a .subscribe [2, 0, 0, 0]
    Eligible s .a [2, 0, 0, 0] { index := 2, allowMove := false, mode := .mark, pids := [] }
        { centre := 745500, bandwidth := .b7, label := none } 0 ∧
      fits s.fe.window { centre := 745500, bandwidth := .b7, label := none } = false ∧
      (placement { centre := 745500, bandwidth := .b7, label := none } s.sharedEntries).isSome ∧
      s.fe.state ≠ .retuning ∧ (∀ k, (s.admLane k).share = 0) ∧ (s.lane 0).state = .free ∧ MemoRate s 2 none :=
  ⟨⟨asksAdmission (by decide), by decide, rfl, everySub (by decide), rfl, by decide⟩, by decide, by decide,
    by decide, by decide, by decide, by decide, by decide⟩

/-- A WINDOW_SET of an edge in kHz at port C. -/
def moving (s : State) (edge : Nat) : State := asking s .c .windowSet (enc32 edge)

/-- The edge of W; a shared lane that does not fit; during a retune; 9,999 ms and 10,000 ms after the last move. -/
theorem witness_WindowSetRefusesOrMoves :
    ((moving planned 470999).AsksAdmission .c .windowSet (enc32 470999) ∧ roundWindow (word32At (enc32 470999) 0) = 470000) ∧
    (let s := moving (farLane 0 0 far) 700000
     s.AsksAdmission .c .windowSet (enc32 700000) ∧ roundWindow (word32At (enc32 700000) 0) = 624000 ∧
       0 < (s.admLane 0).share ∧ s.laneFits 624000 0 = false) ∧
    (∀ fe ∈ [{ FrontEnd.fresh with state := .retuning, retuneEnd := some 10010 },
        { FrontEnd.fresh with state := .active, lastMove := some 1 },
        { FrontEnd.fresh with state := .active, lastMove := some 0 }],
      let s := atTime (moving ((farLane 0 0 far).setFe fe) 471000) 10000
      s.AsksAdmission .c .windowSet (enc32 471000) ∧ roundWindow (word32At (enc32 471000) 0) = 471000 ∧
        0 < (s.admLane 0).share ∧ (∀ l, 0 < (s.admLane l).share → s.laneFits 471000 l = true) ∧
        (s.fe.state = .retuning ∨ s.fe.lastMove = some 1 ∨ s.fe.lastMove = some 0)) ∧
    ((10000 : Time) - 1).toNat < planned.plan.settings.moveInterval ∧
    planned.plan.settings.moveInterval ≤ ((10000 : Time) - 0).toNat := by
  refine ⟨⟨asksAdmission (by decide), by decide⟩, ⟨asksAdmission (by decide), by decide⟩, fun fe h => ?_, by decide,
    by decide⟩
  simp only [List.mem_cons, List.not_mem_nil, or_false] at h
  rcases h with rfl | rfl | rfl <;> exact ⟨asksAdmission (by decide), by decide⟩

/-- Id 6; an id not in use; and an id in use, over a lane that is LOCKED. -/
theorem witness_UnsubscribeRemovesTheSubscription :
    (∀ i ∈ [(6 : Byte), 5, 0],
      (asking (shared .b 35245) .b .unsubscribe [i]).AsksAdmission .b .unsubscribe [i]) ∧
    5 < byteAt [6] 0 ∧ (asking (shared .b 35245) .b .unsubscribe [5]).sub .b 5 = none ∧
    (let s := asking (shared .b 35245) .b .unsubscribe [0]
     s.sub .b 0 = some (sub 0 0 35245) ∧ (∀ j v, s.sub .b j = some v → (s.admLane v.lane).seen ≠ .free) ∧
       s.plan.settings.linger ≠ 0 ∧ (s.lane 0).state ≠ .free ∧ s.fe.state ≠ .off ∧ s.fe.state ≠ .idle) := by
  refine ⟨fun i h => ?_, by decide, by decide, by decide, everySub (by decide), by decide⟩
  simp only [List.mem_cons, List.not_mem_nil, or_false] at h
  rcases h with rfl | rfl | rfl <;> exact asksAdmission (by decide)

/-- A list of 17, a PID of 8192, and one with 8191; ids 6, 5 and 0. -/
theorem witness_FilterSetStoresTheList :
    (∀ body ∈ [[(6 : Byte), 0], [0, 17], [0, 1, 0x20, 0], [5, 0], [0, 2, 0x1F, 0xFF, 0, 9]],
      (asking (shared .b 35245) .b .filterSet body).AsksAdmission .b .filterSet body) ∧
    readPids [0, 17] 1 = none ∧ readPids [0, 1, 0x20, 0] 1 = none ∧ readPids [5, 0] 1 = some [] ∧
    readPids [0, 2, 0x1F, 0xFF, 0, 9] 1 = some [9] ∧ (shared .b 35245).sub .b 5 = none ∧
    ((shared .b 35245).sub .b 0).isSome := by
  refine ⟨fun body h => ?_, by decide⟩
  simp only [List.mem_cons, List.not_mem_nil, or_false] at h
  rcases h with rfl | rfl | rfl | rfl | rfl <;> exact asksAdmission (by decide)

/-- The body of a PORT_SETUP. -/
def setupBody (capacity quota standby : Nat) : List Byte := enc32 capacity ++ (enc8 quota ++ enc8 standby)

/-- A capacity below the committed load and one equal to it; a quota that takes the sum to 129 and one that takes it to
128 (quotas of A, C and D 32 each); and a request with nothing given. -/
theorem witness_PortSetupAndResetSetThePort :
    (∀ body ∈ [setupBody 35999 0xFF 0xFF, setupBody 36000 33 1, setupBody 0xFFFFFFFF 32 0,
        setupBody 0xFFFFFFFF 0xFF 0xFF],
      let s := asking (shared .b 36000) .b .portSetup body
      s.AsksAdmission .b .portSetup body ∧ (s.queue .b).length ≤ s.quota .b ∧
        ∀ i u, s.sub .b i = some u → (s.admLane u.lane).seen ≠ .free) ∧
    (PortSetupBody.read (setupBody 35999 0xFF 0xFF)).capacity = some 35999 ∧ roundCapacity 35999 < 36000 ∧
    roundCapacity 36000 = 36000 ∧ 128 < (shared .b 36000).quotaSum - (shared .b 36000).quota .b + clampQuota 33 ∧
    (shared .b 36000).quotaSum - (shared .b 36000).quota .b + clampQuota 32 = 128 ∧
    PortSetupBody.read (setupBody 0xFFFFFFFF 0xFF 0xFF) = { capacity := none, quota := none, standby := none } ∧
    (asking (shared .b 36000) .b .portReset []).AsksAdmission .b .portReset [] := by
  refine ⟨fun body h => ?_, by decide, by decide, by decide, by decide, by decide, by decide +kernel,
    asksAdmission (by decide)⟩
  simp only [List.mem_cons, List.not_mem_nil, or_false] at h
  rcases h with rfl | rfl | rfl | rfl <;> exact ⟨asksAdmission (by decide), by decide, everySub (by decide)⟩

/-! ## Witnesses: lane events at the admission controller -/

theorem onePerLane {s : State} {l : LaneId} (h : Port.all.all (fun p => decide (∀ i j,
    (s.sub p i).map Sub.lane = some l → (s.sub p j).map Sub.lane = some l → i = j)) = true) : OneSubPerPort s l := by
  intro p i j u v hu hv hl hk
  exact everyPort h p i j (by simp [hu, hl]) (by simp [hv, hk])

/-- The rate held and another one, for a lane with one subscription at port B. -/
theorem witness_RateReportRecharges :
    (let s := toAdm (shared .b 35245) (.rate 0 none)
     s.Settled ∧ s.mail.toAdm = .rate 0 none :: [] ∧ none = (s.admLane 0).rate) ∧
    (let s := toAdm (shared .b 35245) (.rate 0 (some 24403))
     s.Settled ∧ s.mail.toAdm = .rate 0 (some 24403) :: [] ∧ some 24403 ≠ (s.admLane 0).rate ∧ OneSubPerPort s 0 ∧
       (∀ p i u, s.sub p i = some u → (s.admLane u.lane).seen ≠ .free) ∧ s.sub .b 0 = some (sub 0 0 35245)) ∧
    planned.entry 0 = some channel0 :=
  ⟨⟨settled (by decide), rfl, rfl⟩,
    ⟨settled (by decide), rfl, by decide, onePerLane (by decide), everySubOf (by decide), by decide⟩, rfl⟩

theorem witness_LaneReportsMoveTheSubscriptions :
    ((shared .b 35245).admLane (sub 0 0 35245).lane).seen ≠ .free ∧
    (let s := toAdm (shared .b 35245) (.state 0 .holdoff)
     s.Settled ∧ LaneKind.holdoff ≠ .free ∧ s.mail.toAdm = .state 0 .holdoff :: [] ∧ OneSubPerPort s 0 ∧
       s.sub .b 0 = some (sub 0 0 35245)) ∧
    (toAdm lingering (.toFree 0)).mail.toAdm = .toFree 0 :: [] :=
  ⟨by decide, ⟨settled (by decide), by decide, rfl, onePerLane (by decide), by decide⟩, rfl⟩

/-! ## Witnesses: fault log -/

/-- An occurrence waits at the log. -/
def toLog (s : State) (o : Occurrence) : State := s.setMail { s.mail with toLog := [o] }

def clip : Occurrence := { kind := .feClip, port := none, lane := none, plan := none }
def latched : Occurrence := { kind := .feedLatched, port := none, lane := none, plan := none }
def detached : Occurrence := { kind := .portDetached, port := some .b, lane := none, plan := none }
def overflown : Occurrence := { kind := .queueOverflow, port := some .b, lane := some 0, plan := some 0 }
def lost : Occurrence := { kind := .lockLost, port := none, lane := some 0, plan := some 0 }

/-- An IGNORE occurrence; classes found empty by occurrences of each severity, sent to ports or not; and a class with a
first record whose count is at its bound. -/
theorem witness_LogTakesOccurrences :
    (let s := toLog resetIgnored { clip with kind := .warmReset }
     s.Settled ∧ s.mail.toLog[0]? = some { clip with kind := .warmReset } ∧
       s.log.severities.get ErrorKind.warmReset.index = .ignore) ∧
    (∀ o ∈ [clip, latched, detached, overflown, lost], (toLog (shared .b 1) o).Settled ∧
      (toLog (shared .b 1) o).mail.toLog[0]? = some o ∧ ((toLog (shared .b 1) o).log.cls .minor).first = none ∧
      ((toLog (shared .b 1) o).log.cls .major).first = none) ∧
    (NoticeGoesTo (shared .b 1) latched .critical .a ∧ NoticeGoesTo (shared .b 1) overflown .degraded .b ∧
      ¬ NoticeGoesTo (shared .b 1) overflown .degraded .a ∧ ¬ NoticeGoesTo (shared .b 1) detached .degraded .b ∧
      NoticeGoesTo (shared .b 1) lost .degraded .b) ∧
    ((toLog majorFull latched).Settled ∧ (toLog majorFull latched).mail.toLog[0]? = some latched ∧
      ((toLog majorFull latched).log.cls .major).first ≠ none ∧ majorFull.log.severities.get latched.kind.index = .critical) ∧
    (let s := atTime (State.reset.setPort .d { PortRec.fresh with pulseEnd := some 100 }) 100
     (s.port .d).pulseEnd = some 100 ∧ (s.now - 100).toNat < 2147483648) := by
  refine ⟨⟨settled (by decide), by decide, by decide⟩, fun o h => ?_, ?_, ⟨settled (by decide), by decide⟩, by decide⟩
  · simp only [List.mem_cons, List.not_mem_nil, or_false] at h
    rcases h with rfl | rfl | rfl | rfl | rfl <;> exact ⟨settled (by decide), by decide⟩
  · refine ⟨.inl rfl, .inr (.inr (.inl (by decide))), ?_, ?_, .inr (.inr (.inr ⟨by decide, 0, 0, sub 0 0 1, by decide⟩))⟩
    · simp [NoticeGoesTo, overflown]
    · simp [NoticeGoesTo, detached]

/-- Kind 18 and severity 5; kind 17 and severity 4, with the lock set and clear; class code 2 and class codes 0 and 1. -/
theorem witness_LogRequestsReadSetAndClear :
    (∀ body ∈ [[(18 : Byte), 0], [17, 5], [17, 4]],
      (asking majorFull .b .severitySet body).Asks .b .severitySet body ∧
      (asking majorFull .b .severitySet body).plan.lock = false) ∧
    (let s := asking (majorFull.setPlan { PlanBlock.fresh with lock := true }) .b .severitySet [17, 4]
     s.Asks .b .severitySet [17, 4] ∧ s.plan.lock = true) ∧
    (byteAt [17, 4] 0 = ErrorKind.warmReset.index.val ∧ byteAt [17, 4] 1 = Severity.critical.code) ∧
    (∀ body ∈ [[(2 : Byte)], [1], [0]], (asking majorFull .b .logRead body).Asks .b .logRead body ∧
      (asking majorFull .b .logClear body).Asks .b .logClear body) ∧
    byteAt [1] 0 = ClassName.major.code ∧ byteAt [0] 0 = ClassName.minor.code := by
  refine ⟨fun body h => ?_, ⟨asks (by decide), rfl⟩, by decide, fun body h => ?_, by decide⟩ <;>
    simp only [List.mem_cons, List.not_mem_nil, or_false] at h
  · rcases h with rfl | rfl | rfl <;> exact ⟨asks (by decide), rfl⟩
  · rcases h with rfl | rfl | rfl <;> exact ⟨asks (by decide), asks (by decide)⟩

/-! ## Witnesses: riser ports -/

def request (passed : Bool) : Request := { kind := 0x13, tag := 1, body := [], passed }
def busyAnswer : Response := { busy := true, kind := 0x93, tag := 1, body := [1] }
def headResponse : Response := { busy := false, kind := 0x93, tag := 1, body := [0] }

/-- Port C ATTACHED with requests, responses, notices and a downlink, and an entry of slot 127 in its queue. -/
def portC (requests : List Request) (responses : List Response) (downlink : Downlink) (queue : List Entry) : State :=
  let s := planned.setPort .c
    { PortRec.fresh with link := .attached, attach := some .fresh, requests, responses, downlink }
  (s.setQueue .c queue).setSlot 127 (some { packet := [0x47, 0, 9], refs := 1 })

def entry : Entry :=
  { slot := 127, port := .c, id := 0, lane := 0, continuity := 3, errorFlag := false, firstAfter := false }

/-- One and three requests queued; none; four with three and with four BUSY answers; one that the port has answered itself
and whose answer waits; a body of 240 bytes; each answer of the port itself; and a frame whose length field is 241, with
and without a start byte behind it. -/
theorem witness_UplinkFramesBecomeRequests :
    (∀ s ∈ [portC [request true] [] .idle [], portC [request true, request false, request false] [] .idle [],
        portC [] [] .idle [], portC [] [busyAnswer] .response [],
        portC (List.replicate 4 (request true)) (List.replicate 3 busyAnswer) .response [],
        portC (List.replicate 4 (request true)) (List.replicate 4 busyAnswer) .response []],
      s.Settled ∧ (s.port .c).link = .attached ∧ (s.port .c).uplink = [] ∧
        (∀ q ∈ (s.port .c).requests.head?, q.passed = true) ∧ ∀ x ∈ (s.port .c).responses, x.busy = true) ∧
    (List.replicate 240 (0 : Byte)).length ≤ 240 ∧
    (headAnswer 0x13 [] = none ∧ headAnswer 0x14 [] = some .unsupported ∧ headAnswer 0x13 [0] = some .malformed ∧
      headAnswer 0x60 [4, 0, 0] = some .range ∧ headAnswer 0x60 [3, 0, 0] = none) ∧
    (scanBody [0x13, 0x00, 0xF1] = .failed [0x13, 0x00, 0xF1] ∧ ∀ x ∈ [(0x13 : Byte), 0x00, 0xF1], x ≠ 0xA5) ∧
    scanBody [0x13, 0x00, 0xF1, 0xA5] = .failed [0x13, 0x00, 0xF1, 0xA5] ∧
    (let s := portC [{ request false with kind := 0x14 }] [headResponse] .response []
     s.Settled ∧ (s.port .c).link = .attached ∧ (s.port .c).uplink = [] ∧
       ∀ q ∈ (s.port .c).requests.head?, q.passed = true ∨ ∃ x ∈ (s.port .c).responses, x.busy = false) := by
  refine ⟨fun s h => ?_, List.length_replicate.le, by decide, by decide, by decide, settled (by decide), rfl, rfl,
    fun _ _ => .inr ⟨headResponse, List.mem_singleton_self _, rfl⟩⟩
  simp only [List.mem_cons, List.not_mem_nil, or_false] at h
  rcases h with rfl | rfl | rfl | rfl | rfl | rfl <;> exact ⟨settled (by decide), by decide⟩

/-- A BUSY answer; the head answer with nothing, with a request the port passes on and with one it answers itself behind
it; a notice; and a packet. -/
theorem witness_SendCompletesFreeTheDownlink :
    (∀ s ∈ [portC [] [busyAnswer] .response [], portC [request true] [headResponse] .response [],
        portC [request true, request false] [headResponse, busyAnswer] .response [entry],
        portC [request true, { request false with kind := 0x14 }] [headResponse] .response [],
        portC [request true] [] (.notice (.feed .on 0)) [], portC [] [] .packet [entry]],
      s.Settled ∧ (s.port .c).link = .attached ∧ (s.port .c).downlink ≠ .idle) ∧
    (portC [] [] .packet [entry]).queue .c = entry :: [] ∧
    (∀ y ∈ [busyAnswer], y.busy = true) ∧ headAnswer (request false).kind (request false).body = none ∧
    headAnswer 0x14 [] = some .unsupported ∧ headAnswer 0x13 [0] = some .malformed ∧
    (let s := portC [request true, { request false with body := [0] }] [headResponse] .response []
     s.Settled ∧ (s.port .c).requests.tail = { request false with body := [0] } :: []) := by
  refine ⟨fun s h => ?_, rfl, by decide, by decide, by decide, by decide, settled (by decide), rfl⟩
  simp only [List.mem_cons, List.not_mem_nil, or_false] at h
  rcases h with rfl | rfl | rfl | rfl | rfl | rfl <;> exact ⟨settled (by decide), by decide⟩

/-- Port B with a subscription, in HOLDING since time 0. -/
def holding (now : Time) : State :=
  atTime ((shared .b 35245).setPort .b
    { PortRec.fresh with link := .holding, attach := some .fresh, holdStart := some 0 }) now

/-- UNATTACHED; HOLDING, 8,000 ms after the link went down; and ATTACHED. -/
theorem witness_LinkEventsAttachHoldAndExpire :
    ((shared .b 35245).Settled ∧ ((shared .b 35245).port .b).link = .unattached ∧
      ((shared .b 35245).port .b).responses = [] ∧ ((shared .b 35245).port .b).notices = [] ∧
      (shared .b 35245).queue .b = []) ∧
    (let s := holding 8000
     s.Settled ∧ (s.port .b).link = .holding ∧ (s.port .b).responses = [] ∧ (s.port .b).notices = [] ∧
       (s.port .b).downlink = .idle ∧ s.queue .b = [] ∧
       (∀ i u, s.sub .b i = some u → (s.admLane u.lane).seen ≠ .free) ∧ (s.port .b).holdStart = some 0 ∧
       s.plan.settings.hold * 1000 ≤ (s.now - 0).toNat) ∧
    ((attached (shared .b 35245) .b).Settled ∧ ((attached (shared .b 35245) .b).port .b).link = .attached ∧
      (shared .b 35245).mail.toAdm = [] ∧ (holding 8000).mail.toAdm = []) ∧
    (let s := (discarding 95 (some .a))
     s.Settled ∧ s.mail.toAdm = [] ∧ (s.port .a).link = .attached ∧
       s.plan.discard = some { index := 95, answerTo := some .a }) ∧
    (let s := toAdm (holding 8000) (.state 0 .coast)
     s.mail.toAdm = .state 0 .coast :: [] ∧ (s.port .b).link = .holding ∧ (s.port .b).link ≠ .attached ∧
       (s.port .b).holdStart = some 0 ∧ s.plan.settings.hold * 1000 ≤ (s.now - 0).toNat) ∧
    (let s := toAdm (attached (shared .b 35245) .b) (.toFree 5)
     s.mail.toAdm = .toFree 5 :: [] ∧ (s.port .b).link = .attached) ∧ ∀ l, OneSubPerPort (holding 8000) l :=
  ⟨⟨settled (by decide), by decide⟩,
    ⟨settled (by decide), rfl, rfl, rfl, rfl, rfl, everySub (by decide), by decide⟩, ⟨settled (by decide), rfl, rfl, rfl⟩,
    ⟨settled (by decide), rfl, rfl, rfl⟩, by decide, ⟨rfl, rfl⟩, fun l => onePerLane (by revert l; decide)⟩

/-! ## Witnesses: packet pool -/

/-- Lane 0 is shared by ATTACHED ports A and B; a packet of it waits at the pool; B's mode, list and queue as given. -/
def offering (m : PacketMsg) (mode : ErrorMode) (pids : List Nat) (queue : List Entry) : State :=
  let s := (attached (attached (shared .b 35245) .a) .b).setSub .a 0 (some (sub 0 0 35245))
  let s := (s.setSub .b 0 (some { sub 0 0 35245 with mode, pids })).setQueue .b queue
  let s := s.setPort .b { s.port .b with downlink := if queue = [] then .idle else .packet }
  s.setMail { s.mail with toPool := Tab.put s.mail.toPool 0 [m] }

/-- A packet of a PID. -/
def packet (high low : Byte) (outcome : PacketOutcome) : PacketMsg := { bytes := [0x47, high, low, 0x10], outcome }

/-- The state with no free slot. -/
def exhausted (s : State) : State :=
  s.setPool { s.pool with slots := Vector.replicate 128 (some { packet := [], refs := 1 }) }

/-- A null packet; a packet for both ports; one that B's list does not pass; one that B drops; B's queue at its quota;
and no free slot. -/
theorem witness_PacketEventQueuesThePacket :
    (∀ s ∈ [offering (packet 0x1F 0xFF .clean) .mark [] [], offering (packet 0x1F 0xFE .clean) .mark [] [],
        offering (packet 0x1F 0xFE .clean) .mark [5] [], offering (packet 0x1F 0xFE .uncorrectable) .drop [] [],
        offering (packet 0x1F 0xFE .clean) .mark [] (List.replicate 32 entry),
        exhausted (offering (packet 0x1F 0xFE .clean) .mark [] [])],
      s.Settled ∧ OneSubPerPort s 0 ∧ (s.mail.toPool.get 0).length = 1 ∧ (s.sub .a 0).isSome ∧ (s.sub .b 0).isSome) ∧
    ((0x1F : Nat) % 32) * 256 + 0xFF = 8191 ∧
    (∀ i, (exhausted State.reset).slot i ≠ none) ∧ ∃ i, State.reset.slot i = none := by
  refine ⟨fun s h => ?_, by decide, by decide, 127, by decide⟩
  simp only [List.mem_cons, List.not_mem_nil, or_false] at h
  rcases h with rfl | rfl | rfl | rfl | rfl | rfl <;> exact ⟨settled (by decide), onePerLane (by decide), by decide⟩

/-! ## Witnesses: demodulator lanes -/

/-- A message to lane 0 stands first. -/
def toLane (s : State) (m : LaneMsg) : State :=
  s.setMail { s.mail with toLane := Tab.put s.mail.toLane 0 [m] }

theorem witness_StoreAnswersReachTheLane :
    (∀ answer ∈ [none, some ((15 : MemoId), Params.absent)],
      (toLane State.reset (.lookup 0 answer)).mail.toLane.get 0 = .lookup 0 answer :: [] ∧
      (toLane lingering (.lookup 0 answer)).mail.toLane.get 0 = .lookup 0 answer :: []) ∧
    (∀ answer ∈ [none, some (15 : MemoId)],
      (toLane State.reset (.restart 0 answer)).mail.toLane.get 0 = .restart 0 answer :: [] ∧
      (toLane lingering (.restart 0 answer)).mail.toLane.get 0 = .restart 0 answer :: []) ∧
    (State.reset.lane 0).state = .free ∧ (lingering.lane 0).state ≠ .free ∧ (lingering.lane 0).channel = some 0 ∧
    (lingering.lane 0).channel ≠ some 1 ∧ (lingering.lane 0).staleAnswers = 0 ∧
    (let asked : Lane := { onChannel 0 (.acquire .wait) with lookupPending := true }
     let s := toLane (lingering.setLane 0 (assigned 0 asked)) (.lookup 0 none)
     (s.lane 0).channel = some 0 ∧ (s.lane 0).staleAnswers = 1) := by
  refine ⟨fun answer _ => ⟨rfl, rfl⟩, fun answer _ => ⟨rfl, rfl⟩, by decide⟩

/-- Lane 0 in a state with a timer that ends at 100, and an attempt count. -/
def inStage (st : LaneState) (attempts : Nat) (now : Time) : State :=
  atTime (lingering.setLane 0 { onChannel 0 st with
    memo := some 0, attempts, stageTimer := some 100, recheckTimer := some 100, coastTimer := some 100
    retryTimer := some 100, unsettled := some 100, readPending := true }) now

theorem witness_StageSuccessesAdvanceTheLane :
    ∀ st ∈ [LaneState.acquire .sense, .acquire .carrier, .acquire .frame, .acquire .verify, .acquire .stream, .locked],
      ((inStage st 0 0).lane 0).state = st := by decide

/-- At the moment a timer ends and 2^31 - 1 ms later; the second and the third attempt. -/
theorem witness_StageTimeoutsCountAttempts :
    (∀ st ∈ [LaneState.acquire .sense, .acquire .carrier, .acquire .frame, .acquire .verify, .acquire .stream],
      ∀ n ∈ [1, 2], ((inStage st n 100).lane 0).state = st ∧ ((inStage st n 100).lane 0).stageTimer = some 100 ∧
        ((inStage st n 100).lane 0).attempts = n) ∧
    ((inStage .locked 0 100).now - 100).toNat < 2147483648 ∧
    ((inStage .locked 0 0x80000063).now - 100).toNat < 2147483648 := by decide

theorem witness_LockedLanesCoastRestartAndRecheck :
    (∀ st ∈ [LaneState.locked, .coast, .holdoff .noSignal, .holdoff .failed], ((inStage st 0 100).lane 0).state = st) ∧
    (let x := (inStage .locked 0 100).lane 0
     x.coastTimer = some 100 ∧ x.retryTimer = some 100 ∧ x.recheckTimer = some 100 ∧ x.readPending = true ∧
       x.params.mode ≠ some .s ∧ x.params.cell = none) ∧
    (let x := { (inStage .locked 0 100).lane 0 with
       params := { Params.absent with mode := some .s, guard := some .g4, constellation := some .p4
                                      codeRate := some .r12, cell := some 9 } }
     x.params.cell ≠ none ∧ x.params.cell ≠ some 10 ∧ x.params.cell = some 9 ∧
       ¬ (x.params.mode ≠ some .s ∨ x.params.guard ≠ some .g4 ∨ x.params.constellation ≠ some .p4 ∨
         x.params.codeRate ≠ some .r12)) ∧
    ((100 : Time) - 100).toNat < 2147483648 := by decide

/-- A completed window just below the threshold of 10 and at it; and the end of the UNSETTLED condition. -/
theorem witness_PacketsCountAndUnsettleTheLane :
    ((inStage .locked 0 100).lane 0).state = .locked ∧ ((inStage .coast 0 100).lane 0).state ≠ .locked ∧
    (∀ bad ∈ [9, 10], (((inStage .locked 0 100).setLane 0
      { (inStage .locked 0 100).lane 0 with windowsDone := [bad] }).lane 0).windowsDone = bad :: []) ∧
    9 < planned.plan.settings.unsettle ∧ planned.plan.settings.unsettle ≤ 10 ∧
    ((inStage .locked 0 100).lane 0).unsettled = some 100 ∧ ((inStage .locked 0 100).now - 100).toNat < 2147483648 := by
  decide

/-! ## Witnesses: frames and invariants -/

theorem witness_FramesReadBackAsWritten :
    (∀ b ∈ [(0x00 : Byte), 0x47], b ≠ 0xA5) ∧ (List.replicate 240 (0xA5 : Byte)).length ≤ 240 ∧
      240 < (List.replicate 241 (0xA5 : Byte)).length ∧ (List.replicate 65535 (0xA5 : Byte)).length < 65536 := by
  refine ⟨by decide, ?_, ?_, ?_⟩ <;> rw [List.length_replicate] <;> decide

theorem witness_FramesReadBackAsWritten_downlink :
    ((portC [] [] .idle []).port .c).downlink = .idle ∧
    (((portC [request true] [headResponse] .response []).port .c).downlink = .response ∧
      ((portC [request true] [headResponse] .response []).port .c).responses = headResponse :: []) ∧
    ((portC [] [] (.notice (.feed .on 0)) []).port .c).downlink = .notice (.feed .on 0) ∧
    (((portC [] [] .packet [entry]).port .c).downlink = .packet ∧
      (portC [] [] .packet [entry]).queue .c = entry :: [] ∧
      (portC [] [] .packet [entry]).slot entry.slot = some { packet := [0x47, 0, 9], refs := 1 }) := by decide

/-- A state in which a LOCKED lane is shared, about to lose synchronisation. -/
def running : State := { shared .b 35245 with pending := [.syncLost 0] }

theorem running_steps : ∃ t, step running = .next t ∧ decide ((t.lane 0).state = .coast) = true :=
  next_of_answers (c := .syncLost 0) (s := shared .b 35245) (by decide)

theorem running_slots : ∀ i, running.slot i = none := by decide

theorem running_tags : ∀ m, (running.memo m).tag = none := by decide

theorem running_lanes : ∀ l, (running.lane l).channel.isSome = true → l = 0 := by decide

theorem witness_StepKeepsSharesAndChannels : SharingLaw running where
  shares := by decide
  sharedBusy := by decide
  channelWhenBusy := by decide
  laneOfSub := everySubOf (by decide)
  oneLane := fun l k x hl hk => by rw [running_lanes l (by simp [hl]), running_lanes k (by simp [hk])]
  onePerPort := fun p i j u v hu hv _ => by
    have h : ∀ p, ∀ i, (running.sub p i).isSome = true → p = .b ∧ i = 0 := everyPort (by decide)
    rw [(h p i (by simp [hu])).2, (h p j (by simp [hv])).2]
  lingerUnshared := by decide

theorem witness_StepKeepsCommittedWithinCapacity : CommittedLaw running where
  sum := everyPort (by decide)
  within := everyPort (by decide)
  range := everyPort (by decide)

theorem witness_StepKeepsSlotsAndQueues : QueueLaw running where
  sharing := witness_StepKeepsSharesAndChannels
  slots := ⟨fun _ _ => rfl, fun i x h => by
    rw [running_slots i] at h
    cases h⟩
  within := everyPort (by decide)
  once := everyPort (by decide)
  range := everyPort (by decide)
  total := by decide

theorem witness_StepKeepsTheWindow : WindowLaw running where
  position := by unfold isPosition; decide
  fitted := fun l h => by
    have : ∀ l, (running.lane l).state ≠ .free → l = 0 := by decide
    rw [this l h]
    exact ⟨channel0, by decide⟩

theorem witness_StepKeepsTheLogClasses : LogLaw running :=
  ⟨⟨by decide, by decide, by decide, by decide⟩, ⟨by decide, by decide, by decide, by decide⟩⟩

theorem witness_StepKeepsTheMemoStore : MemoLaw running where
  order := List.Perm.refl _
  tags := fun m k x h => by
    rw [running_tags m] at h
    cases h
  pinned := by decide
  rate := fun m x h => by
    rw [running_tags m] at h
    cases h

/-- The same state while a discard of index 95 is awaited. -/
def awaiting : State := { running with plan := { running.plan with discard := some { index := 95, answerTo := none } } }

theorem witness_StepKeepsTheMemoStore_plan :
    SharingLaw awaiting ∧ WindowLaw awaiting ∧ MemoLaw awaiting ∧ PlanLaw awaiting ∧ awaiting.plan.discard.isSome := by
  have tags : ∀ m x, (awaiting.memo m).tag = some x → False := fun m x h => by
    have h' : (running.memo m).tag = some x := h
    rw [running_tags m] at h'
    cases h'
  have mail : ∀ l, awaiting.mail.toStore.get l = [] := by decide
  refine ⟨{ witness_StepKeepsSharesAndChannels with }, { witness_StepKeepsTheWindow with },
    { witness_StepKeepsTheMemoStore with rate := fun m x h => (tags m x h).elim }, ⟨?_, ?_, ?_⟩, rfl⟩
  · intro l x _ h
    have e : l = 0 := running_lanes l (by rw [show (running.lane l).channel = some x from h]; rfl)
    subst e
    cases h
    decide
  · intro l m h
    rw [mail l] at h
    cases h
  · exact fun m x h => (tags m x h).elim

theorem witness_StepKeepsTheLaneRecords : SharingLaw running ∧ ∀ l, LaneLaw (running.lane l) :=
  ⟨witness_StepKeepsSharesAndChannels, fun l =>
    { stageTimer := by revert l; decide, recheckTimer := by revert l; decide, readPending := by revert l; decide
      coastTimer := by revert l; decide, retryTimer := by revert l; decide, channel := by revert l; decide
      whenFree := by revert l; decide, attempts := by revert l; decide, acquiring := by revert l; decide
      window := by revert l; decide, counters := by revert l; decide }⟩

/-- A parameter set with its rate on channel 0. -/
def found : Params :=
  { offset := some 5, mode := some .m, guard := some .g32, constellation := some .p64, codeRate := some .r34
    cell := some 9, streamRate := rateFrom (some .b8)
      { Params.absent with guard := some .g32, constellation := some .p64, codeRate := some .r34 } }

/-- The same state with lane 0 in step with memo 0, and before the store the restart allocation and the release that lane
1 sent for the same channel before it was released. -/
def inStep : State :=
  let s := (running.setLane 0 { running.lane 0 with params := found }).setMemo 0
    { tag := some 0, pinned := false, fields := found }
  let s := (s.setLane 1 { Lane.fresh with staleAnswers := 1 }).setMail
    { s.mail with toStore := Tab.put s.mail.toStore 1 [.restart 0 Params.absent, .release 0] }
  { s with
    store := { s.store with inUse := Tab.put (Tab.put s.store.inUse 0 (some 0)) 1 (some 0) }
    pending := [.restartAllocation 1] }

theorem inStep_lane : ∀ l, (inStep.lane l).channel.isSome = true → l = 0 := by decide

theorem inStep_memo : ∀ m, (inStep.memo m).tag.isSome = true → m = 0 := by decide

theorem inStep_at {l : LaneId} {x : PlanIndex} (h : (inStep.lane l).channel = some x) : l = 0 ∧ x = 0 := by
  have e : l = 0 := inStep_lane l (by rw [h]; rfl)
  subst e
  cases h
  exact ⟨rfl, rfl⟩

theorem inStep_parameters : ParameterLaw inStep where
  rate := fun l x h => by
    obtain ⟨rfl, rfl⟩ := inStep_at h
    decide
  inStep := fun l x m h hm => by
    obtain ⟨rfl, rfl⟩ := inStep_at h
    cases hm
    exact ⟨rfl, rfl⟩
  counted := by decide
  whenFree := by decide
  waits := by decide
  lookup := fun l x h hp => by
    obtain ⟨rfl, rfl⟩ := inStep_at h
    cases hp
  restarts := fun l x h _ => by
    obtain ⟨rfl, rfl⟩ := inStep_at h
    have sent : inStep.mail.toStore.get 0 = [] := by decide
    have answered : inStep.mail.toLane.get 0 = [] := by decide
    refine ⟨rfl, by decide, ?_, ?_⟩
    · intro m h
      rw [sent] at h
      exact absurd h List.not_mem_nil
    · intro a h
      rw [answered, List.drop_nil] at h
      exact absurd h List.not_mem_nil

theorem witness_StepKeepsTheLaneRecords_parameters :
    SharingLaw inStep ∧ MemoLaw inStep ∧ PlanLaw inStep ∧ ParameterLaw inStep ∧
      ∃ t, step inStep = .next t ∧ t.memo 0 = inStep.memo 0 := by
  refine ⟨⟨by decide, by decide, by decide, everySubOf (by decide), fun l k x hl hk => ?_, fun p i j u v hu hv _ => ?_,
    by decide⟩, ⟨List.Perm.refl _, fun m k x hm hk => ?_, by decide, fun m x h _ => ?_⟩, ⟨fun _ _ _ _ h => ?_, ?_, ?_⟩,
    inStep_parameters, _, rfl, by decide⟩
  · rw [(inStep_at hl).1, (inStep_at hk).1]
  · have h : ∀ p, ∀ i, (inStep.sub p i).isSome = true → p = .b ∧ i = 0 := everyPort (by decide)
    rw [(h p i (by simp [hu])).2, (h p j (by simp [hv])).2]
  · rw [inStep_memo m (by simp [hm]), inStep_memo k (by simp [hk])]
  · obtain rfl := inStep_memo m (by simp [h])
    cases h
    decide
  · cases h
  · intro l m hm x hx
    have none : ∀ l, l ≠ 1 → inStep.mail.toStore.get l = [] := by decide
    by_cases e : l = 1
    · subst e
      have all : ∀ m ∈ inStep.mail.toStore.get 1, ∀ x, m.names x = true → x = 0 := by
        intro m hm x hx
        rw [show inStep.mail.toStore.get 1 = [.restart 0 Params.absent, .release 0] by decide] at hm
        have two : m = .restart 0 Params.absent ∨ m = .release 0 := by simpa using hm
        rcases two with rfl | rfl <;> simpa [StoreMsg.names, eq_comm] using hx
      rw [all m hm x hx]
      exact ⟨by decide, by decide⟩
    · rw [none l e] at hm
      cases hm
  · intro m x h
    obtain rfl := inStep_memo m (by simp [h])
    cases h
    exact .inl (by decide)

theorem witness_StepKeepsLanesOnAUsableInput : InputLaw running where
  powered := by decide
  usable := by decide
  feedFault := by decide
  noIdleWait := by decide

theorem witness_StepKeepsTheFrontEndRecord : FrontEndLaw running.fe where
  wakeEnd := by decide
  activeSince := by decide
  idleSince := by decide
  retuneEnd := by decide
  attenuator := by decide
  quiet := by decide
  feedWait := by decide
  retries := by decide
  retriesWaiting := by decide

theorem witness_StepKeepsThePortRecords : PortLaw running where
  settled := settled (by decide)
  detached := everyPort (by decide)
  hold := everyPort (by decide)
  requests := everyPort (by decide)
  busyAnswers := everyPort (by decide)
  headAnswers := everyPort (by decide)
  answered := everyPort (by decide)
  notices := everyPort (by decide)
  sendsResponse := everyPort (by decide)
  sendsPacket := everyPort (by decide)
  asker := fun d p h => by cases h

/-! ## More steps of spec chapter 11 -/

/-- 11.4, 336,200: an overcurrent 300 ms after the restore with retry count 3 latches the feed, and the lane is in
HOLDOFF(FEED). -/
theorem test_third_retry_latches : answers .overcurrentEvent (atTime (fed .on 3 (some 335900)) 336200) (fun t =>
    decide (t.fe.feed = .latched) && decide (t.fe.retryCount = 3) && decide ((t.lane 0).state = .holdoff .feed) &&
      decide (t.mail.toLog = [latched])) = true := by decide

/-- 11.4, 315,400: the same 400 ms after the first restore only waits. -/
theorem test_first_retry_waits : answers .overcurrentEvent (atTime (fed .on 1 (some 315000)) 315400) (fun t =>
    decide (t.fe.feed = .faultWait) && decide (t.fe.retryCount = 1) && decide (t.fe.feedWaitEnd = some 325400)) = true := by
  decide

/-- 11.2, 30,000: the last UNSUBSCRIBE of a lane lets it linger from then on. -/
theorem test_unsubscribe_starts_the_linger :
    answers (.unsubscribe .b) (atTime (asking (shared .b 24923) .b .unsubscribe [0]) 30000) (fun t =>
      decide ((t.lane 0).lingerStart = some 30000) && decide ((t.admPort .b).committed = 0) &&
        decide ((t.lane 0).state = .locked)) = true := by decide

/-- 11.5, 500,000: a rate of 28,471 takes a port of capacity 45,000, committed to 43,384, into OVERLOAD at 29,077, and its
committed load falls to 18,461. -/
theorem test_rate_rise_overloads :
    let s := toAdm (shared .c 24923) (.rate 0 (some 28471))
    answers (.rateReport 0) (s.setAdmPort .c { s.admPort .c with capacity := 45000, committed := 43384 }) (fun t =>
      decide ((t.sub .c 0).map Sub.overload = some true) && decide ((t.sub .c 0).map Sub.charge = some 29077) &&
        decide ((t.admPort .c).committed = 18461)) = true := by decide +kernel

/-- 11.3, 200,030: the refusal WINDOW of R46 names the lowest lane that does not fit, before any timing. -/
theorem test_window_set_misfit_before_timing :
    answers (.windowSet .b) (atTime (asking ((farLane 2 2 far).setFe
      { FrontEnd.fresh with state := .retuning, window := 505000, retuneEnd := some 200040, lastMove := some 200000 })
      .b .windowSet (enc32 470000)) 200030) (fun t =>
        decide ((t.port .b).responses.map Response.body = [[0x0C, 2]]) && decide (t.fe.window = 505000)) = true := by decide

/-! ## Points where rules of several chapters meet -/

/-- R138, R35: a PORT_SETUP with nothing given leaves an ACTIVE front end whose target has fallen as it is. -/
theorem test_setup_of_nothing_keeps_the_front_end :
    answers (.portSetup .b) (asking (planned.setFe { FrontEnd.fresh with state := .active }) .b .portSetup
      (setupBody 0xFFFFFFFF 0xFF 0xFF)) (fun t => decide (t.fe.state = .active)) = true := by decide +kernel

/-- R67: a lane that leaves WAIT tunes to its plan centre moved by the offset. -/
theorem test_sense_is_tuned_with_the_offset :
    answers .wakeCompletion ((busy { FrontEnd.fresh with state := .waking, wakeEnd := some 0 }).setLane 0
      { onChannel 0 (.acquire .wait) with params := { Params.absent with offset := some (-125) } }) (fun t =>
        decide ((t.lane 0).tuned = some 521875) && decide ((t.lane 0).stageTimer = some 50)) = true := by decide

/-- R63, R64: a lane released and assigned the same channel again discards the answer to its first lookup, and waits. -/
theorem test_answer_of_an_earlier_assignment_is_discarded :
    answers (.lookupAnswer 0) (toLane ((busy { FrontEnd.fresh with state := .active }).setLane 0
      (assigned 0 { onChannel 0 (.acquire .wait) with lookupPending := true })) (.lookup 0 none)) (fun t =>
        decide ((t.lane 0).state = .acquire .wait) && (t.lane 0).lookupPending &&
          decide ((t.lane 0).staleAnswers = 0)) = true := by decide

/-- R9, R113: a PLAN_WRITE is not taken while a lookup for its index is on its way to the store. -/
theorem test_plan_write_waits_for_the_lookup :
    let s := toStore (writing 0 0 0 255 0 planned) 0 (.lookup 0)
    exec (.planWrite .a) s = .next s := by rfl

/-- R133, R178: between a lane's linger expiry and CHANGE_TO_FREE, channel and charging rate do not apply. -/
theorem test_status_of_a_released_lane :
    let s := (planned.setAdmLane 0 { channel := some 0, share := 0, rate := some 24403, seen := .locked })
    byteAt (encLane 0 s) 3 = 0xFF ∧ (encLane 0 s).drop 65 = [0xFF, 0xFF] := by decide

/-- R188: a PORT_DETACHED that finds its class empty leaves every port's record as it is, its own ATTACHED one too. -/
theorem test_port_detached_reaches_no_port :
    answers (.logOccurrence 0) (toLog (attached planned .b) detached) (fun t =>
      decide ((t.port .b).downlink = .idle) && decide ((t.port .b).notices = [])) = true := by decide

/-- R123: a LINK_DOWN takes the lane report given before it first, so the live mark is set before HELD is reported. -/
theorem test_link_down_takes_the_reports_first :
    let s := attached (shared .b 35245) .b
    let u : Sub := { sub 0 0 35245 with reported := .pending, liveMark := false }
    answers (.linkDown .b) (toAdm (s.setSub .b 0 (some u)) (.state 0 .locked)) (fun t =>
      decide ((t.sub .b 0).map Sub.liveMark = some true) && decide ((t.sub .b 0).map Sub.reported = some .held)) = true := by
  decide +kernel

/-- R83, R101: a memo-less lane whose earlier restart allocation is unanswered asks again. -/
theorem test_each_restart_asks :
    answers (.retryExpiry 0) (lingering.setLane 0
      { onChannel 0 (.holdoff .failed) with restartsPending := 1, retryTimer := some 0 }) (fun t =>
        decide (t.mail.toStore.get 0 = [.restart 0 Params.absent]) && decide ((t.lane 0).restartsPending = 2) &&
          decide ((t.lane 0).state = .acquire .wait)) = true := by decide

/-- R78: a recheck that finds nothing changed clears its mark and writes nothing. -/
theorem test_recheck_of_the_same_values_writes_nothing :
    let s := lingering.setLane 0 { onChannel 0 .locked with
      readPending := true, recheckTimer := some 500
      params := { found with streamRate := none } }
    answers (.recheck 0 .m .g32 .p64 .r34 9) s (fun t =>
      decide ((t.lane 0).params = (s.lane 0).params) && decide ((t.lane 0).readPending = false) &&
        decide (t.mail.toLog = [])) = true := by decide
end Sys2Proof.Tests
end

section
/-! The two resets (R1, R18, R195, R196). Facts about the fault log's taking of an occurrence come first: the class it
enters is changed by `LogClass.taken`, and where no port is ATTACHED nothing but the log changes. Both resets differ from
`State.reset` in few parts, so that what either leaves is read off `State.reset` once. -/

namespace Sys2Proof.Machine

/-! ## The classes of the fault log (R183, R185) -/

@[simp] theorem FaultLog.cls_setCls (g : FaultLog) (n m : ClassName) (c : LogClass) :
    (g.setCls n c).cls m = if n = m then c else g.cls m := by
  cases n <;> cases m <;> rfl

@[simp] theorem FaultLog.setCls_severities (g : FaultLog) (n : ClassName) (c : LogClass) :
    (g.setCls n c).severities = g.severities := by
  cases n <;> rfl

theorem ErrorKind.mem_all (k : ErrorKind) : k ∈ ErrorKind.all := by
  cases k <;> decide

@[simp] theorem mem_addKind {j k : ErrorKind} {kinds : List ErrorKind} : j ∈ addKind k kinds ↔ j = k ∨ j ∈ kinds := by
  simp [addKind, ErrorKind.mem_all]

/-! ## What an occurrence makes of the log (R186) -/

/-- What an occurrence makes of the class it enters: it is the first record of an empty class, and is added to the next set
of another and counted. -/
def LogClass.taken (c : LogClass) (r : FirstRecord) : LogClass :=
  match c.first with
  | none => { first := some r, nextSet := [], count := 1 }
  | some _ => { c with nextSet := addKind r.kind c.nextSet, count := min (c.count + 1) Config.occurrenceMax }

/-- The record of an occurrence that the log takes at a time, with the severity that its table holds. -/
def FaultLog.record (g : FaultLog) (o : Occurrence) (stamp : Time) : FirstRecord :=
  { kind := o.kind, severity := g.severity o.kind, stamp, port := o.port, lane := o.lane, plan := o.plan }

/-- What an occurrence taken at a time makes of the log. -/
def FaultLog.taken (g : FaultLog) (o : Occurrence) (stamp : Time) : FaultLog :=
  match (g.severity o.kind).cls with
  | none => g
  | some n => g.setCls n ((g.cls n).taken (g.record o stamp))

theorem LogClass.taken_of_empty {c : LogClass} (r : FirstRecord) (h : c.first = none) :
    c.taken r = { first := some r, nextSet := [], count := 1 } := by
  simp [LogClass.taken, h]

theorem LogClass.taken_of_first {c : LogClass} (r : FirstRecord) (h : c.first ≠ none) :
    c.taken r =
      { c with nextSet := addKind r.kind c.nextSet, count := min (c.count + 1) Config.occurrenceMax } := by
  obtain ⟨x, hx⟩ := Option.ne_none_iff_exists'.mp h
  simp [LogClass.taken, hx]

theorem FaultLog.taken_of_ignored {g : FaultLog} {o : Occurrence} (stamp : Time)
    (h : (g.severity o.kind).cls = none) : g.taken o stamp = g := by
  simp [FaultLog.taken, h]

theorem FaultLog.taken_of_cls {g : FaultLog} {o : Occurrence} {n : ClassName} (stamp : Time)
    (h : (g.severity o.kind).cls = some n) :
    g.taken o stamp = g.setCls n ((g.cls n).taken (g.record o stamp)) := by
  simp [FaultLog.taken, h]

@[simp] theorem FaultLog.taken_severities (g : FaultLog) (o : Occurrence) (stamp : Time) :
    (g.taken o stamp).severities = g.severities := by
  cases h : (g.severity o.kind).cls with
  | none => rw [taken_of_ignored stamp h]
  | some n => rw [taken_of_cls stamp h, setCls_severities]

theorem FaultLog.taken_cls_same {g : FaultLog} {o : Occurrence} {n : ClassName} (stamp : Time)
    (h : (g.severity o.kind).cls = some n) : (g.taken o stamp).cls n = (g.cls n).taken (g.record o stamp) := by
  rw [taken_of_cls stamp h, cls_setCls, if_pos rfl]

theorem FaultLog.taken_cls_other {g : FaultLog} {o : Occurrence} {n : ClassName} (stamp : Time)
    (h : (g.severity o.kind).cls ≠ some n) : (g.taken o stamp).cls n = g.cls n := by
  cases hm : (g.severity o.kind).cls with
  | none => rw [taken_of_ignored stamp hm]
  | some m =>
    have hne : m ≠ n := fun e => h (e ▸ hm)
    rw [taken_of_cls stamp hm, cls_setCls, if_neg hne]

/-- A port that is not ATTACHED discards a notice (R173). -/
theorem raiseNotice_of_not_attached {s : State} (n : Notice) {p : Port} (h : (s.port p).link ≠ .attached) :
    raiseNotice n p s = s := by
  rw [raiseNotice_eq, if_neg h, State.setPort_self]

theorem takeOccurrence_of_ignored {s : State} {o : Occurrence} (h : (s.log.severity o.kind).cls = none) :
    takeOccurrence o s = s := by
  simp [takeOccurrence, h]

/-- An occurrence that finds its class empty: the log's new state, and then the LOG notices (R187, R188). -/
theorem takeOccurrence_of_empty {s : State} {o : Occurrence} {n : ClassName}
    (h : (s.log.severity o.kind).cls = some n) (empty : (s.log.cls n).first = none) :
    takeOccurrence o s =
      if (s.log.severity o.kind).notifies then
        forEach (Port.all.filter ((s.setLog (s.log.taken o s.now)).logNoticeFor o (s.log.severity o.kind)))
          (raiseNotice (.log n (s.log.record o s.now))) (s.setLog (s.log.taken o s.now))
      else s.setLog (s.log.taken o s.now) := by
  simp [takeOccurrence, h, empty, FaultLog.taken_of_cls s.now h, LogClass.taken_of_empty _ empty, FaultLog.record]

theorem takeOccurrence_of_first {s : State} {o : Occurrence} {n : ClassName}
    (h : (s.log.severity o.kind).cls = some n) (filled : (s.log.cls n).first ≠ none) :
    takeOccurrence o s = s.setLog (s.log.taken o s.now) := by
  obtain ⟨x, hx⟩ := Option.ne_none_iff_exists'.mp filled
  simp [takeOccurrence, h, hx, FaultLog.taken_of_cls s.now h, LogClass.taken_of_first _ filled, FaultLog.record]

/-- While no port is ATTACHED, the taking of an occurrence changes the log alone (R173, R186). -/
theorem takeOccurrence_of_no_port_attached {s : State} (o : Occurrence) (h : ∀ p, (s.port p).link ≠ .attached) :
    takeOccurrence o s = s.setLog (s.log.taken o s.now) := by
  have discarded (ps : List Port) (x : Notice) (g : FaultLog) : forEach ps (raiseNotice x) (s.setLog g) = s.setLog g :=
    forEach_keeps (P := (· = s.setLog g)) ps
      (fun p _ t ht => by rw [ht]; exact raiseNotice_of_not_attached x (h p)) rfl
  cases hn : (s.log.severity o.kind).cls with
  | none => rw [takeOccurrence_of_ignored hn, FaultLog.taken_of_ignored s.now hn]; rfl
  | some n =>
    by_cases empty : (s.log.cls n).first = none
    · rw [takeOccurrence_of_empty hn empty, discarded, ite_self]
    · exact takeOccurrence_of_first hn empty

/-! ## What either reset leaves -/

/-- The tables of the reset values hold in `State.reset`. -/
theorem afterEitherReset_reset : AfterEitherReset State.reset where
  timeBase := rfl
  lock := ⟨rfl, rfl⟩
  frontEnd := ⟨rfl, rfl, rfl, rfl, rfl, rfl, rfl⟩
  attenuatorAndFeed := ⟨rfl, rfl, rfl, rfl, rfl, rfl, rfl⟩
  lanes l := by simp [State.lane, State.reset, Lane.fresh, Params.absent]
  memos m := by simp [State.memo, State.reset, MemoStore.fresh, Memo.empty]
  order := rfl
  inUse l := by simp [State.reset, MemoStore.fresh]
  subscriptions p i := by simp [State.sub, State.admPort, State.reset, Admission.fresh, AdmPort.fresh]
  admissionLanes l := by simp [State.admLane, State.reset, Admission.fresh, AdmLane.fresh]
  portSettings p := by
    simp [State.admPort, State.quota, State.reset, Admission.fresh, AdmPort.fresh, Pool.fresh,
      Config.capacityDefault, Config.quotaDefault]
  servedLast := rfl
  pool := ⟨fun i => by simp [State.slot, State.reset, Pool.fresh], fun p => by simp [State.queue, State.reset, Pool.fresh]⟩
  ports p := by simp [State.port, State.reset, PortRec.fresh]
  mail := ⟨fun l => by simp [State.reset, Mail.empty], rfl, rfl⟩

/-- The reset tables speak neither of the plan, but for its lock and its discard, nor of the log, the slot count and the
command queue. -/
theorem AfterEitherReset.of_touches {s t : State} (r : AfterEitherReset s)
    (h : Touches [.plan, .log, .slotPicks, .pending] s t) (lock : t.plan.lock = false) (discard : t.plan.discard = none) :
    AfterEitherReset t := by
  have now : t.now = s.now := h.same .now (by decide)
  have fe : t.fe = s.fe := h.same .fe (by decide)
  have lanes : t.lanes = s.lanes := h.same .lanes (by decide)
  have store : t.store = s.store := h.same .store (by decide)
  have adm : t.adm = s.adm := h.same .adm (by decide)
  have pool : t.pool = s.pool := h.same .pool (by decide)
  have ports : t.ports = s.ports := h.same .ports (by decide)
  have mail : t.mail = s.mail := h.same .mail (by decide)
  cases t
  cases now
  cases fe
  cases lanes
  cases store
  cases adm
  cases pool
  cases ports
  cases mail
  exact { r with lock := ⟨lock, discard⟩ }

/-- No pulse runs after a reset, so that an alert line follows the major class (R176). -/
theorem AfterEitherReset.alertAsserted_iff {t : State} (r : AfterEitherReset t) (p : Port) :
    t.alertAsserted p = true ↔ t.log.major.first ≠ none := by
  simp [State.alertAsserted, r.ports p, LogClass.isEmpty, Option.isSome_iff_ne_none]

/-! ## The RESET pin (R1) -/

theorem resetPulse_eq_coldReset {micros : Nat} : resetPulse micros = some .coldReset ↔ 10000 ≤ micros := by
  unfold resetPulse
  split_ifs <;> simp_all

theorem resetPulse_eq_warmReset {micros : Nat} :
    resetPulse micros = some .warmReset ↔ 100 ≤ micros ∧ micros < 10000 := by
  unfold resetPulse
  split_ifs <;> simp_all

theorem resetPulse_eq_none {micros : Nat} : resetPulse micros = none ↔ micros < 100 := by
  unfold resetPulse
  split_ifs <;> simp <;> omega

/-! ## COLD_RESET -/

/-- The state after a cold reset. -/
def afterCold (s : State) : State := { State.reset with slotPicks := s.slotPicks, pending := s.pending }

theorem exec_coldReset (s : State) : exec .coldReset s = .next (afterCold s) := rfl

theorem touches_afterCold (s : State) : Touches [.slotPicks, .pending] State.reset (afterCold s) := by
  intro p hp
  cases p with
  | slotPicks | pending => simp at hp
  | _ => rfl

theorem afterEitherReset_afterCold (s : State) : AfterEitherReset (afterCold s) :=
  afterEitherReset_reset.of_touches ((touches_afterCold s).mono (by decide)) rfl rfl

/-- Settles O5: a cold reset leaves `State.reset`, but for the queue and the slot count, and every table is read off it. -/
theorem coldResetGivesTheResetValues : Obligations.ColdResetGivesTheResetValues := by
  refine ⟨fun _ => resetPulse_eq_coldReset, fun s => ⟨afterCold s, exec_coldReset s, afterEitherReset_afterCold s, ?_⟩⟩
  have entries : ∀ x, (afterCold s).entry x = none := fun x => Tab.get_replicate none x
  have severities : ∀ k, (afterCold s).log.severity k = defaultSeverities.get k.index := fun _ => rfl
  have alerts : ∀ p, (afterCold s).alertAsserted p = false := fun p =>
    Bool.eq_false_iff.mpr fun h => (afterEitherReset_afterCold s).alertAsserted_iff p |>.mp h rfl
  exact ⟨entries, rfl, fun k => (severities k).trans (by cases k <;> rfl), rfl, rfl, alerts, rfl, rfl⟩

/-! ## WARM_RESET -/

/-- The occurrence of WARM_RESET (R196). -/
def warmOccurrence : Occurrence := { kind := .warmReset, port := none, lane := none, plan := none }

theorem touches_warmBase (s : State) : Touches [.plan, .log, .slotPicks, .pending] State.reset (warmBase s) := by
  intro p hp
  cases p with
  | plan | log | slotPicks | pending => simp at hp
  | _ => rfl

theorem afterEitherReset_warmBase (s : State) : AfterEitherReset (warmBase s) :=
  afterEitherReset_reset.of_touches (touches_warmBase s) rfl rfl

/-- The log takes WARM_RESET at time 0, and no port is there to be noticed. -/
theorem exec_warmReset (s : State) :
    exec .warmReset s = .next ((warmBase s).setLog (s.log.taken warmOccurrence 0)) := by
  have detached : ∀ p, ((warmBase s).port p).link ≠ .attached := fun p => by
    simp [(afterEitherReset_warmBase s).ports p]
  exact congrArg Host.Outcome.next (takeOccurrence_of_no_port_attached warmOccurrence detached)

theorem afterEitherReset_warmBase_setLog (s : State) (g : FaultLog) : AfterEitherReset ((warmBase s).setLog g) :=
  (afterEitherReset_warmBase s).of_touches ((touches_setLog (warmBase s) g).mono (by decide)) rfl rfl

/-- Settles O6: a warm reset leaves the kept parts, the reset tables elsewhere, and the log with one more occurrence. -/
theorem warmResetKeepsPlanAndLog : Obligations.WarmResetKeepsPlanAndLog := by
  refine ⟨fun _ => ⟨resetPulse_eq_warmReset, resetPulse_eq_none⟩, fun s =>
    ⟨_, exec_warmReset s, afterEitherReset_warmBase_setLog s _, rfl, rfl, FaultLog.taken_severities _ _ _,
      fun n other => FaultLog.taken_cls_other 0 other, fun n enters => ?_,
      (afterEitherReset_warmBase_setLog s _).alertAsserted_iff, rfl, rfl⟩⟩
  rw [State.setLog_log, FaultLog.taken_cls_same (o := warmOccurrence) 0 enters]
  constructor
  · intro empty
    rw [LogClass.taken_of_empty _ empty]
    exact ⟨rfl, rfl, rfl⟩
  · intro filled
    rw [LogClass.taken_of_first _ filled]
    exact ⟨rfl, fun k => mem_addKind, rfl⟩

end Sys2Proof.Machine
end

section
/-! What each command can do to the front end, the lanes and the plan table, said once for the three invariants that rest
on these parts alone (R33 to R57, R60, R66, R89). Most commands leave the three parts as they are (`Quiet`) or leave every
lane asking no more of window and input than it did (`Eases`); `InputEffect` lists the rest. -/

namespace Sys2Proof.Machine

/-! ## Commands that leave front end, lanes and plan as they are -/

/-- The parts other than front end, lanes and plan. -/
def quietParts : List Part := [.now, .store, .adm, .pool, .ports, .log, .mail, .slotPicks, .pending]

/-- Two states with the same front end, lanes and plan. -/
def Quiet (s t : State) : Prop := Touches quietParts s t

variable {s t u : State}

theorem Quiet.refl (s : State) : Quiet s s := Touches.refl _ s

theorem Quiet.trans (h : Quiet s t) (k : Quiet t u) : Quiet s u := Touches.trans h k

theorem Touches.quiet {parts : List Part} (h : Touches parts s t) (sub : ∀ p ∈ parts, p ∈ quietParts) : Quiet s t :=
  h.mono sub

theorem Quiet.fe (h : Quiet s t) : t.fe = s.fe := h.same .fe (by decide)
theorem Quiet.lanes (h : Quiet s t) : t.lanes = s.lanes := h.same .lanes (by decide)
theorem Quiet.plan (h : Quiet s t) : t.plan = s.plan := h.same .plan (by decide)

theorem Quiet.lane (h : Quiet s t) (l : LaneId) : t.lane l = s.lane l := by
  simp only [State.lane, h.lanes]

theorem Quiet.entry (h : Quiet s t) (x : PlanIndex) : t.entry x = s.entry x := by
  simp only [State.entry, h.plan]

theorem Quiet.ite {c : Prop} [Decidable c] (h : Quiet s t) (k : Quiet s u) : Quiet s (if c then t else u) :=
  Touches.ite h k

theorem Quiet.settle (h : Quiet s t) : Quiet s (settle t) := h.trans ((touches_settle t).quiet (by decide))

theorem Quiet.respond (h : Quiet s t) (p : Port) (status : Status) (fields : List Byte) :
    Quiet s (respond p status fields t) :=
  h.trans ((touches_respond t p status fields).quiet (by decide))

theorem Quiet.report (h : Quiet s t) (o : Occurrence) : Quiet s (report o t) :=
  h.trans ((touches_report t o).quiet (by decide))

theorem Quiet.forEach {α : Type} {f : α → State → State} (h : ∀ x t, Quiet t (f x t)) (items : List α) (s : State) :
    Quiet s (forEach items f s) :=
  Touches.forEach h items s

theorem quiet_respond (p : Port) (status : Status) (fields : List Byte) : Quiet s (respond p status fields s) :=
  (Quiet.refl s).respond p status fields

theorem quiet_setStore (x : MemoStore) : Quiet s (s.setStore x) := (touches_setStore s x).quiet (by decide)
theorem quiet_setAdm (x : Admission) : Quiet s (s.setAdm x) := (touches_setAdm s x).quiet (by decide)
theorem quiet_setPool (x : Pool) : Quiet s (s.setPool x) := (touches_setPool s x).quiet (by decide)
theorem quiet_setLog (x : FaultLog) : Quiet s (s.setLog x) := (touches_setLog s x).quiet (by decide)
theorem quiet_setMail (x : Mail) : Quiet s (s.setMail x) := (touches_setMail s x).quiet (by decide)
theorem quiet_setPort (p : Port) (x : PortRec) : Quiet s (s.setPort p x) := (touches_setPort s p x).quiet (by decide)

theorem quiet_markServed (p : Port) : Quiet s (markServed p s) := quiet_setAdm _

theorem quiet_findOrAllocate {x : PlanIndex} {m : MemoId} {made : Bool} (h : findOrAllocate x s = some (m, made, t)) :
    Quiet s t :=
  (touches_findOrAllocate s x h).quiet (by decide)

theorem quiet_writeMemo (f : Params → Params) (m : MemoId) : Quiet s (writeMemo f m s) :=
  (touches_writeMemo s f m).quiet (by decide)

/-! ### The memo store's commands (chapter 5) -/

theorem quiet_memoPin (p : Port) (body : List Byte) : Quiet s (memoPin p body s) := by
  unfold memoPin
  split
  · exact quiet_respond p _ _
  · split
    · exact quiet_respond p _ _
    · split
      · exact quiet_respond p _ _
      · next h => exact ((quiet_findOrAllocate h).trans (quiet_setStore _)).respond p _ _

theorem quiet_memoUnpin (p : Port) (body : List Byte) : Quiet s (memoUnpin p body s) := by
  unfold memoUnpin
  split
  · exact quiet_respond p _ _
  · exact ((quiet_setStore _).trans (quiet_setStore _)).respond p _ _

theorem quiet_memoReleaseAll (p : Port) : Quiet s (memoReleaseAll p s) :=
  ((touches_clearPins s).quiet (by decide)).respond p _ _

theorem quiet_memoFlush (p : Port) : Quiet s (memoFlush p s) :=
  (((touches_flushMemos s _).trans (touches_clearPins _)).quiet (by decide)).respond p _ _

theorem quiet_memoFlushUnpinned (p : Port) : Quiet s (memoFlushUnpinned p s) :=
  ((touches_flushMemos s _).quiet (by decide)).respond p _ _

theorem quiet_memoSeed (p : Port) (body : List Byte) : Quiet s (memoSeed p body s) := by
  unfold memoSeed
  split
  · exact quiet_respond p _ _
  · split
    · exact quiet_respond p _ _
    · split
      · exact quiet_respond p _ _
      · exact Quiet.respond (by unfold writeSeed; exact Quiet.ite (quiet_writeMemo _ _) (quiet_setStore _)) p _ _

theorem quiet_memoRead (p : Port) (body : List Byte) : Quiet s (memoRead p body s) := by
  unfold memoRead
  split <;> exact quiet_respond p _ _

theorem quiet_lookupMemo (l : LaneId) (x : PlanIndex) : Quiet s (lookupMemo l x s) := by
  unfold lookupMemo
  have counted : Quiet s (setInUse l (some x) s) := quiet_setStore _
  simp only
  split
  · exact counted.trans (quiet_setMail _)
  · next h => exact (counted.trans (quiet_findOrAllocate h)).trans (quiet_setMail _)

theorem quiet_restartMemo (l : LaneId) (x : PlanIndex) (params : Params) : Quiet s (restartMemo l x params s) := by
  unfold restartMemo
  split
  · exact quiet_setMail _
  · next h =>
    exact ((quiet_findOrAllocate h).trans (Quiet.ite (Quiet.refl _) (quiet_writeMemo _ _))).trans (quiet_setMail _)

/-! ### The fault log's, STATUS and the plan's reading commands -/

theorem quiet_severitySet (p : Port) (body : List Byte) : Quiet s (severitySet p body s) := by
  unfold severitySet
  split
  · simp only
    split
    · exact quiet_respond p _ _
    · exact (quiet_setLog _).respond p _ _
  · exact quiet_respond p _ _

theorem quiet_logRead (p : Port) (body : List Byte) : Quiet s (logRead p body s) := by
  unfold logRead
  split <;> exact quiet_respond p _ _

theorem quiet_logClear (p : Port) (body : List Byte) : Quiet s (logClear p body s) := by
  unfold logClear
  split
  · exact quiet_respond p _ _
  · exact (quiet_setLog _).respond p _ _

theorem quiet_statusSubscription (p : Port) (body : List Byte) : Quiet s (statusSubscription p body s) := by
  unfold statusSubscription
  split
  · split <;> exact quiet_respond p _ _
  · exact quiet_respond p _ _

theorem quiet_statusLane (p : Port) (body : List Byte) : Quiet s (statusLane p body s) := by
  unfold statusLane
  split <;> exact quiet_respond p _ _

theorem quiet_statusPort (p : Port) (body : List Byte) : Quiet s (statusPort p body s) := by
  unfold statusPort
  split <;> exact quiet_respond p _ _

theorem quiet_planRead (p : Port) (body : List Byte) : Quiet s (planRead p body s) := by
  unfold planRead
  split <;> exact quiet_respond p _ _

theorem quiet_filterSet (p : Port) (body : List Byte) : Quiet s (filterSet p body s) := by
  unfold filterSet
  split
  · split
    · exact quiet_respond p _ _
    · exact (quiet_setAdm _).respond p _ _
  · exact quiet_respond p _ _

/-! ### The ports' commands (chapter 8) -/

theorem quiet_examineHead (p : Port) : Quiet s (examineHead p s) := (touches_examineHead s p).quiet (by decide)

theorem quiet_arrive (p : Port) (kind tag : Byte) (body : List Byte) : Quiet s (arrive p kind tag body s) := by
  unfold arrive
  simp only
  exact Quiet.ite ((quiet_setPort _ _).trans (quiet_examineHead p)) (Quiet.ite (quiet_setPort _ _) (quiet_setPort _ _))

theorem quiet_readUplink (p : Port) (fuel : Nat) (bytes : List Byte) (s : State) :
    Quiet s (readUplink p fuel bytes s) := by
  induction fuel generalizing bytes s with
  | zero => exact quiet_setPort _ _
  | succ fuel ih =>
    unfold readUplink
    split
    · exact quiet_setPort _ _
    · have failed : Quiet s (failCheck p s) := (quiet_setPort _ _).trans (quiet_setMail _)
      exact failed.trans (ih _ _)
    · exact (quiet_arrive p _ _ _).trans (ih _ _)

theorem quiet_responseSent (p : Port) : Quiet s (responseSent p s) := by
  unfold responseSent
  simp only
  split
  · exact quiet_setPort _ _
  · exact Quiet.ite (quiet_setPort _ _) ((quiet_setPort _ _).trans (quiet_examineHead p))

theorem quiet_packetSent (p : Port) : Quiet s (packetSent p s) := by
  unfold packetSent
  simp only
  split
  · exact quiet_setPort _ _
  · exact ((quiet_setPort _ _).trans (quiet_setPool _)).trans ((touches_dropRef _ _).quiet (by decide))

/-! ### The commands -/

/-- What a command leads to, where it answers a next state, meets a property. -/
def Yields (P : State → Prop) : Host.Outcome State Fault Refusal → Prop
  | .next t => P t
  | .fault _ => True
  | .refused _ => True

theorem Yields.next {P : State → Prop} {o : Host.Outcome State Fault Refusal} (h : Yields P o) (e : o = .next t) :
    P t := by
  rw [e] at h
  exact h

theorem Yields.imp {P Q : State → Prop} {o : Host.Outcome State Fault Refusal} (h : Yields P o) (k : ∀ {t}, P t → Q t) :
    Yields Q o := by
  cases o with
  | next t => exact k h
  | fault _ => trivial
  | refused _ => trivial

/-- A command that acts where its event can happen (log entry 4). -/
theorem yields_ite {P : State → Prop} {c : Prop} [Decidable c] (acts : c → P t) (idle : P s) :
    Yields P (if c then .next t else .next s) := by
  split
  · next h => exact acts h
  · exact idle

/-- The commands that leave front end, lanes and plan as they are. -/
def isQuiet : Instr → Bool
  | .planRead _ | .memoPin _ | .memoUnpin _ | .memoReleaseAll _ | .memoFlush _ | .memoFlushUnpinned _ | .memoSeed _
  | .memoRead _ | .memoSnapshot _ | .filterSet _ | .severitySet _ | .logRead _ | .logClear _ | .statusSubscription _
  | .statusLane _ | .statusFrontEnd _ | .statusPort _ | .uplinkFrame _ _ | .responseSendComplete _
  | .noticeSendComplete _ | .sendComplete _ | .alertPulseEnd _ | .lookup _ | .lockNotice _ | .releaseNotice _
  | .restartAllocation _ | .rateReport _ | .laneStateChange _ | .changeToFree _ | .packetEvent _
  | .logOccurrence _ => true
  | _ => false

theorem quiet_takeReport (m : AdmMsg) : Quiet s (takeReport m s) := (touches_takeReport s m).quiet (by decide)

theorem exec_quiet {c : Instr} (hc : isQuiet c = true) : Yields (Quiet s) (exec c s) := by
  cases c with
  | planRead p =>
    simp only [exec, execPlanRead]
    split
    exacts [Quiet.refl s, (quiet_planRead p _).settle]
  | memoPin p =>
    simp only [exec, execMemoPin]
    split
    exacts [Quiet.refl s, (quiet_memoPin p _).settle]
  | memoUnpin p =>
    simp only [exec, execMemoUnpin]
    split
    exacts [Quiet.refl s, (quiet_memoUnpin p _).settle]
  | memoReleaseAll p =>
    simp only [exec, execMemoReleaseAll]
    split
    exacts [Quiet.refl s, (quiet_memoReleaseAll p).settle]
  | memoFlush p =>
    simp only [exec, execMemoFlush]
    split
    exacts [Quiet.refl s, (quiet_memoFlush p).settle]
  | memoFlushUnpinned p =>
    simp only [exec, execMemoFlushUnpinned]
    split
    exacts [Quiet.refl s, (quiet_memoFlushUnpinned p).settle]
  | memoSeed p =>
    simp only [exec, execMemoSeed]
    split
    exacts [Quiet.refl s, (quiet_memoSeed p _).settle]
  | memoRead p =>
    simp only [exec, execMemoRead]
    split
    exacts [Quiet.refl s, (quiet_memoRead p _).settle]
  | memoSnapshot p =>
    simp only [exec, execMemoSnapshot]
    split
    exacts [Quiet.refl s, (quiet_respond p _ _).settle]
  | filterSet p =>
    simp only [exec, execFilterSet]
    split
    exacts [Quiet.refl s, ((quiet_markServed p).trans (quiet_filterSet p _)).settle]
  | severitySet p =>
    simp only [exec, execSeveritySet]
    split
    exacts [Quiet.refl s, (quiet_severitySet p _).settle]
  | logRead p =>
    simp only [exec, execLogRead]
    split
    exacts [Quiet.refl s, (quiet_logRead p _).settle]
  | logClear p =>
    simp only [exec, execLogClear]
    split
    exacts [Quiet.refl s, (quiet_logClear p _).settle]
  | statusSubscription p =>
    simp only [exec, execStatusSubscription]
    split
    exacts [Quiet.refl s, (quiet_statusSubscription p _).settle]
  | statusLane p =>
    simp only [exec, execStatusLane]
    split
    exacts [Quiet.refl s, (quiet_statusLane p _).settle]
  | statusFrontEnd p =>
    simp only [exec, execStatusFrontEnd]
    split
    exacts [Quiet.refl s, (quiet_respond p _ _).settle]
  | statusPort p =>
    simp only [exec, execStatusPort]
    split
    exacts [Quiet.refl s, (quiet_statusPort p _).settle]
  | uplinkFrame p bytes => exact yields_ite (fun _ => (quiet_readUplink p _ _ s).settle) (Quiet.refl s)
  | responseSendComplete p => exact yields_ite (fun _ => (quiet_responseSent p).settle) (Quiet.refl s)
  | noticeSendComplete p => exact yields_ite (fun _ => Quiet.settle (quiet_setPort p _)) (Quiet.refl s)
  | sendComplete p => exact yields_ite (fun _ => (quiet_packetSent p).settle) (Quiet.refl s)
  | alertPulseEnd p => exact yields_ite (fun _ => quiet_setPort p _) (Quiet.refl s)
  | packetEvent l =>
    simp only [exec, execPacketEvent]
    split
    exacts [Quiet.refl s, ((quiet_setMail _).trans ((touches_takePacket _ l _).quiet (by decide))).settle]
  | logOccurrence place =>
    simp only [exec, execLogOccurrence]
    split
    exacts [Quiet.refl s, ((quiet_setMail _).trans ((touches_takeOccurrence _ _).quiet (by decide))).settle]
  | lookup l =>
    simp only [exec, execLookup]
    split
    exacts [(quiet_setMail _).trans (quiet_lookupMemo l _), Quiet.refl s]
  | lockNotice l =>
    simp only [exec, execLockNotice]
    split
    exacts [(quiet_setMail _).trans (quiet_setStore _), Quiet.refl s]
  | releaseNotice l =>
    simp only [exec, execReleaseNotice]
    split
    exacts [(quiet_setMail _).trans (quiet_setStore _), Quiet.refl s]
  | restartAllocation l =>
    simp only [exec, execRestartAllocation]
    split
    exacts [(quiet_setMail _).trans (quiet_restartMemo l _ _), Quiet.refl s]
  | rateReport l =>
    simp only [exec, execRateReport]
    split
    · exact yields_ite (fun _ => quiet_takeReport _) (Quiet.refl s)
    · exact Quiet.refl s
  | laneStateChange l =>
    simp only [exec, execLaneStateChange]
    split
    · exact yields_ite (fun _ => quiet_takeReport _) (Quiet.refl s)
    · exact Quiet.refl s
  | changeToFree l =>
    simp only [exec, execChangeToFree]
    split
    · exact yields_ite (fun _ => quiet_takeReport _) (Quiet.refl s)
    · exact Quiet.refl s
  | _ => cases hc

end Sys2Proof.Machine
end

section
/-! Commands that leave every lane asking no more of the plan, the window and the input than before: the lanes' own
commands (chapter 4) and every release. -/

namespace Sys2Proof.Machine

variable {s t u : State} {x y z : Lane} {usable : Bool}

/-! ## What a lane asks -/

/-- A lane that waits in WAIT with its questions answered (R66). -/
def Lane.ready (x : Lane) : Prop := x.state = .acquire .wait ∧ x.lookupPending = false ∧ x.restartsPending = 0

/-- Of a lane's two records the second asks no more of plan, window and input than the first, over an input that is usable
or not: it carries a channel, demodulates, waits for the feed or waits in WAIT only where the first did, or where the input
lets it. -/
structure Lane.Eases (usable : Bool) (x y : Lane) : Prop where
  carries : y.state ≠ .free → x.state ≠ .free ∧ y.channel = x.channel
  demodulates : y.state.demodulates = true → x.state.demodulates = true ∨ usable = true
  held : y.state = .holdoff .feed → x.state = .holdoff .feed
  waits : y.ready → x.ready ∨ usable = false

/-- Two records that ask the same. -/
structure Lane.AsksAlike (x y : Lane) : Prop where
  state : y.state = x.state
  channel : y.channel = x.channel
  lookup : y.lookupPending = x.lookupPending
  restarts : y.restartsPending = x.restartsPending

theorem Lane.AsksAlike.refl (x : Lane) : Lane.AsksAlike x x := ⟨rfl, rfl, rfl, rfl⟩

theorem Lane.AsksAlike.trans (h : Lane.AsksAlike x y) (k : Lane.AsksAlike y z) : Lane.AsksAlike x z :=
  ⟨k.state.trans h.state, k.channel.trans h.channel, k.lookup.trans h.lookup, k.restarts.trans h.restarts⟩

theorem Lane.AsksAlike.eases (h : Lane.AsksAlike x y) : Lane.Eases usable x y where
  carries busy := ⟨h.state ▸ busy, h.channel⟩
  demodulates d := .inl (h.state ▸ d)
  held d := h.state ▸ d
  waits := fun ⟨hs, hl, hr⟩ => .inl ⟨h.state ▸ hs, h.lookup ▸ hl, h.restarts ▸ hr⟩

theorem Lane.Eases.trans (h : Lane.Eases usable x y) (k : Lane.Eases usable y z) : Lane.Eases usable x z where
  carries busy := ⟨(h.carries (k.carries busy).1).1, (k.carries busy).2.trans (h.carries (k.carries busy).1).2⟩
  demodulates d := (k.demodulates d).elim h.demodulates .inr
  held d := h.held (k.held d)
  waits w := (k.waits w).elim h.waits .inr

theorem LaneState.busy_of_demodulates {st : LaneState} (h : st.demodulates = true) : st ≠ .free := by
  rintro rfl; cases h

/-- A FREE lane asks nothing. -/
theorem Lane.Eases.of_free (h : y.state = .free) : Lane.Eases usable x y where
  carries busy := absurd h busy
  demodulates d := absurd h (LaneState.busy_of_demodulates d)
  held d := by rw [h] at d; cases d
  waits := fun ⟨w, _⟩ => by rw [h] at w; cases w

/-- A lane that demodulates goes on demodulating the same channel. -/
theorem Lane.Eases.of_demodulates (hx : x.state.demodulates = true) (hy : y.state.demodulates = true)
    (hc : y.channel = x.channel) : Lane.Eases usable x y where
  carries _ := ⟨LaneState.busy_of_demodulates hx, hc⟩
  demodulates _ := .inl hx
  held d := by rw [d] at hy; cases hy
  waits := fun ⟨w, _⟩ => by rw [w] at hy; cases hy

/-- A lane that is not FREE goes into HOLDOFF for its own reasons (R82). -/
theorem Lane.Eases.of_holdoff {reason : HoldoffReason} (hx : x.state ≠ .free) (hy : y.state = .holdoff reason)
    (hr : reason ≠ .feed) (hc : y.channel = x.channel) : Lane.Eases usable x y where
  carries _ := ⟨hx, hc⟩
  demodulates d := by rw [hy] at d; cases d
  held d := by rw [hy] at d; cases d; exact absurd rfl hr
  waits := fun ⟨w, _⟩ => by rw [hy] at w; cases w

/-! ### Leaving WAIT and restarting (R66, R83) -/

theorem State.leftWait_of_ready (h : x.ready) (hu : s.fe.usable = true) :
    s.leftWait x =
      { x with state := .acquire .sense, stageTimer := some (later s.now senseMs), tuned := s.tuning x } := by
  obtain ⟨hs, hl, hr⟩ := h
  rw [State.leftWait, if_pos ⟨hs, hl, hr, hu⟩]

theorem State.leftWait_of_not (h : ¬ (x.ready ∧ s.fe.usable = true)) : s.leftWait x = x := by
  rw [State.leftWait, if_neg]
  exact fun ⟨hs, hl, hr, hu⟩ => h ⟨⟨hs, hl, hr⟩, hu⟩

theorem State.leftWait_cases (s : State) (x : Lane) :
    (x.ready ∧ s.fe.usable = true ∧ (s.leftWait x).state = .acquire .sense) ∨
      (¬ (x.ready ∧ s.fe.usable = true) ∧ s.leftWait x = x) := by
  by_cases h : x.ready ∧ s.fe.usable = true
  · exact .inl ⟨h.1, h.2, by rw [State.leftWait_of_ready h.1 h.2]⟩
  · exact .inr ⟨h, State.leftWait_of_not h⟩

@[simp] theorem State.leftWait_channel (s : State) (x : Lane) : (s.leftWait x).channel = x.channel := by
  unfold State.leftWait; split <;> rfl

theorem State.leftWait_free (s : State) (x : Lane) : (s.leftWait x).state = .free ↔ x.state = .free := by
  obtain ⟨⟨hw, -⟩, -, h⟩ | ⟨-, h⟩ := s.leftWait_cases x
  · rw [h, hw]; decide
  · rw [h]

/-- A lane that has left WAIT demodulates only if it did before or the input is usable. -/
theorem State.leftWait_demodulates (h : (s.leftWait x).state.demodulates = true) :
    x.state.demodulates = true ∨ s.fe.usable = true := by
  obtain ⟨-, hu, -⟩ | ⟨-, e⟩ := s.leftWait_cases x
  · exact .inr hu
  · rw [e] at h; exact .inl h

theorem State.leftWait_held (h : (s.leftWait x).state = .holdoff .feed) : x.state = .holdoff .feed := by
  obtain ⟨-, -, e⟩ | ⟨-, e⟩ := s.leftWait_cases x
  · rw [e] at h; cases h
  · rw [e] at h; exact h

/-- With a usable input no lane stands in WAIT with its questions answered (R66). -/
theorem State.leftWait_ready (h : (s.leftWait x).ready) : s.fe.usable = false := by
  obtain ⟨-, -, e⟩ | ⟨hn, e⟩ := s.leftWait_cases x
  · have hw := h.1; rw [e] at hw; cases hw
  · rw [e] at h; exact Bool.eq_false_iff.mpr fun hu => hn ⟨h, hu⟩

/-- A lane that asks no more than another, but for the waiting, and then leaves WAIT where it may asks no more. -/
theorem Lane.Eases.leftWait (s : State) (carries : y.state ≠ .free → x.state ≠ .free ∧ y.channel = x.channel)
    (demodulates : y.state.demodulates = true → x.state.demodulates = true)
    (held : y.state = .holdoff .feed → x.state = .holdoff .feed) : Lane.Eases s.fe.usable x (s.leftWait y) where
  carries busy := by
    rw [State.leftWait_channel]
    exact carries fun h => busy ((s.leftWait_free y).mpr h)
  demodulates d := (State.leftWait_demodulates d).imp_left demodulates
  held d := held (State.leftWait_held d)
  waits w := .inr (State.leftWait_ready w)

theorem Lane.Eases.restarted (s : State) (busy : x.state ≠ .free) : Lane.Eases s.fe.usable x (s.restarted x) :=
  Lane.Eases.leftWait s (fun _ => ⟨busy, rfl⟩) (fun d => by cases d) (fun d => by cases d)

/-! ## States in which every lane asks no more than before -/

/-- The front end and the plan entries are the same, and every lane asks no more. -/
structure Eases (s t : State) : Prop where
  fe : t.fe = s.fe
  entries : t.plan.entries = s.plan.entries
  lanes : ∀ l, Lane.Eases s.fe.usable (s.lane l) (t.lane l)

/-- The front end and the plan entries are the same, and every lane asks the same. -/
structure AsksAlike (s t : State) : Prop where
  fe : t.fe = s.fe
  entries : t.plan.entries = s.plan.entries
  lanes : ∀ l, Lane.AsksAlike (s.lane l) (t.lane l)

theorem Quiet.asksAlike (h : Quiet s t) : AsksAlike s t :=
  ⟨h.fe, by rw [h.plan], fun l => by rw [h.lane]; exact Lane.AsksAlike.refl _⟩

theorem AsksAlike.eases (h : AsksAlike s t) : Eases s t := ⟨h.fe, h.entries, fun l => (h.lanes l).eases⟩

theorem Quiet.eases (h : Quiet s t) : Eases s t := h.asksAlike.eases

theorem Eases.refl (s : State) : Eases s s := (Quiet.refl s).eases

theorem AsksAlike.trans (h : AsksAlike s t) (k : AsksAlike t u) : AsksAlike s u :=
  ⟨k.fe.trans h.fe, k.entries.trans h.entries, fun l => (h.lanes l).trans (k.lanes l)⟩

theorem Eases.trans (h : Eases s t) (k : Eases t u) : Eases s u :=
  ⟨k.fe.trans h.fe, k.entries.trans h.entries, fun l => (h.lanes l).trans (by rw [← h.fe]; exact k.lanes l)⟩

theorem Eases.quiet (h : Eases s t) (k : Quiet t u) : Eases s u := h.trans k.eases

theorem Quiet.after (k : Quiet t u) (h : Eases s t) : Eases s u := h.quiet k

theorem Eases.ite {c : Prop} [Decidable c] (h : Eases s t) (k : Eases s u) : Eases s (if c then t else u) := by
  split <;> assumption

theorem Eases.forEach {α : Type} {f : α → State → State} (h : ∀ x t, Eases t (f x t)) (items : List α) (s : State) :
    Eases s (forEach items f s) :=
  forEach_keeps (P := Eases s) items (fun x _ t ht => ht.trans (h x t)) (Eases.refl s)

theorem eases_setLane {l : LaneId} (h : Lane.Eases s.fe.usable (s.lane l) x) : Eases s (s.setLane l x) where
  fe := rfl
  entries := rfl
  lanes k := by
    rw [State.setLane_lane]
    split
    · next e => rw [← e]; exact h
    · exact (Lane.AsksAlike.refl _).eases

theorem asksAlike_setLane {l : LaneId} (h : Lane.AsksAlike (s.lane l) x) : AsksAlike s (s.setLane l x) where
  fe := rfl
  entries := rfl
  lanes k := by
    rw [State.setLane_lane]
    split
    · next e => rw [← e]; exact h
    · exact Lane.AsksAlike.refl _

theorem eases_modLane {l : LaneId} {f : Lane → Lane} (h : Lane.Eases s.fe.usable (s.lane l) (f (s.lane l))) :
    Eases s (s.modLane l f) :=
  eases_setLane h

theorem asksAlike_modLane {l : LaneId} {f : Lane → Lane} (h : ∀ x, Lane.AsksAlike x (f x)) :
    AsksAlike s (s.modLane l f) :=
  asksAlike_setLane (h (s.lane l))

/-- A plan block with the same entries. -/
theorem eases_setPlan {b : PlanBlock} (h : b.entries = s.plan.entries) : Eases s (s.setPlan b) :=
  ⟨rfl, h, fun _ => (Lane.AsksAlike.refl _).eases⟩

/-! ### The lanes' operations -/

theorem asksAlike_writeFields (f : Params → Params) (l : LaneId) : AsksAlike s (writeFields f l s) := by
  unfold writeFields
  have written : ∀ b, AsksAlike s (s.modLane l (fun x => { x with params := withRate b (f x.params) })) := fun b =>
    asksAlike_modLane fun _ => ⟨rfl, rfl, rfl, rfl⟩
  simp only
  split
  · exact written _
  · exact (written _).trans (quiet_writeMemo f _).asksAlike

theorem asksAlike_clearFields (f : Params → Params) (l : LaneId) : AsksAlike s (clearFields f l s) := by
  unfold clearFields
  simp only
  split
  · exact asksAlike_writeFields f l
  · exact (asksAlike_writeFields f l).trans (quiet_setMail _).asksAlike

theorem asksAlike_writeCell (cell : BitVec 16) (l : LaneId) : AsksAlike s (writeCell cell l s) := by
  unfold writeCell
  simp only
  split
  · exact asksAlike_writeFields _ l
  · split
    · exact asksAlike_writeFields _ l
    · exact (asksAlike_writeFields _ l).trans (quiet_setMail _).asksAlike

theorem asksAlike_changeSignalling (l : LaneId) (mode : CarrierMode) (guard : Guard) (constellation : Constellation)
    (codeRate : CodeRate) : AsksAlike s (changeSignalling l mode guard constellation codeRate s) :=
  (asksAlike_writeFields _ l).trans ((quiet_setMail _).trans (quiet_setMail _)).asksAlike

theorem asksAlike_recheckCell (l : LaneId) (cell : BitVec 16) : AsksAlike s (recheckCell l cell s) := by
  rw [recheckCell_eq]
  split
  · exact asksAlike_writeCell cell l
  · exact (Quiet.refl s).asksAlike

theorem asksAlike_setUnsettled (l : LaneId) : AsksAlike s (setUnsettled l s) :=
  asksAlike_modLane fun _ => ⟨rfl, rfl, rfl, rfl⟩

theorem asksAlike_completeWindow (l : LaneId) (bad : Nat) : AsksAlike s (completeWindow l bad s) := by
  unfold completeWindow
  split
  · simp only
    split
    · exact (asksAlike_setUnsettled l).trans (quiet_setMail _).asksAlike
    · exact asksAlike_setUnsettled l
  · exact (Quiet.refl s).asksAlike

theorem eases_enterStage {l : LaneId} {st : Stage} (ms : Nat) (h : (s.lane l).state.demodulates = true)
    (timed : st.timed = true) : Eases s (enterStage st ms l s) :=
  eases_modLane (.of_demodulates h timed rfl)

theorem eases_enterHoldoff {l : LaneId} {reason : HoldoffReason} (h : (s.lane l).state ≠ .free)
    (hr : reason ≠ .feed) : Eases s (enterHoldoff reason l s) :=
  (quiet_setMail _).after (eases_modLane (.of_holdoff h rfl hr rfl))

theorem eases_enterLocked {l : LaneId} (h : (s.lane l).state.demodulates = true) : Eases s (enterLocked l s) :=
  (quiet_setMail _).after (eases_modLane (.of_demodulates h rfl rfl))

theorem eases_countAttempt {l : LaneId} (h : (s.lane l).state.demodulates = true) : Eases s (countAttempt l s) := by
  unfold countAttempt
  have counted : AsksAlike s (s.modLane l (fun x => { x with attempts := x.attempts + 1 })) :=
    asksAlike_modLane fun _ => ⟨rfl, rfl, rfl, rfl⟩
  have d : ((s.modLane l (fun x => { x with attempts := x.attempts + 1 })).lane l).state.demodulates = true := by
    rw [(counted.lanes l).state]; exact h
  exact Eases.ite (counted.eases.trans (eases_modLane (.of_demodulates d rfl rfl)))
    ((counted.eases.trans (eases_enterHoldoff (LaneState.busy_of_demodulates d) (by decide))).quiet (quiet_setMail _))

theorem eases_mismatch {l : LaneId} (h : (s.lane l).state.demodulates = true) : Eases s (mismatch l s) := by
  have cleared : AsksAlike s (reportLane .memoMismatch l (clearFields
      (fun f => { f with mode := none, guard := none, constellation := none, codeRate := none, cell := none }) l s)) :=
    (asksAlike_clearFields _ l).trans (quiet_setMail _).asksAlike
  refine cleared.eases.trans (eases_enterStage _ ?_ rfl)
  rw [(cleared.lanes l).state]
  exact h

theorem eases_carrierFound {l : LaneId} (offset : Int) (mode : CarrierMode) (guard : Guard)
    (h : (s.lane l).state.demodulates = true) : Eases s (carrierFound l offset mode guard s) := by
  have written : AsksAlike s (writeFields
      (fun f => { f with offset := some offset, mode := some mode, guard := some guard }) l s) :=
    asksAlike_writeFields _ l
  have entered := written.eases.trans
    (eases_enterStage (st := .frame) frameMs (by rw [(written.lanes l).state]; exact h) rfl)
  exact Eases.ite entered (entered.quiet (quiet_setMail _))

theorem eases_frameDecoded {l : LaneId} (constellation : Constellation) (codeRate : CodeRate) (cell : BitVec 16)
    (h : (s.lane l).state.demodulates = true) : Eases s (frameDecoded l constellation codeRate cell s) := by
  have written : AsksAlike s (reportRate l (writeCell cell l (writeFields
      (fun f => { f with constellation := some constellation, codeRate := some codeRate }) l s))) :=
    ((asksAlike_writeFields _ l).trans (asksAlike_writeCell cell l)).trans (quiet_setMail _).asksAlike
  exact written.eases.trans (eases_enterStage _ (by rw [(written.lanes l).state]; exact h) rfl)

theorem eases_restartLane {l : LaneId} (h : (s.lane l).state ≠ .free) : Eases s (restartLane l s) where
  fe := (touches_restartLane s l).same .fe (by decide)
  entries := congrArg PlanBlock.entries ((touches_restartLane s l).same .plan (by decide))
  lanes k := by
    rw [restartLane_lane]
    split
    · next e => rw [← e]; exact .restarted s h
    · exact (Lane.AsksAlike.refl _).eases

theorem eases_takeLookupAnswer (l : LaneId) (answer : Option (MemoId × Params)) :
    Eases s (takeLookupAnswer l answer s) := by
  unfold takeLookupAnswer
  simp only
  generalize ht : s.modLane l _ = t
  have own : t.lane l = { s.lane l with
      lookupPending := false, memo := answer.map (fun a => a.1)
      params := (answer.map (fun a => a.2)).getD Params.absent } := by
    subst ht; exact (State.setLane_lane s l l _).trans (if_pos rfl)
  have other : ∀ k, l ≠ k → t.lane k = s.lane k := by
    subst ht; exact fun k e => (State.setLane_lane s l k _).trans (if_neg e)
  have hf : t.fe = s.fe := by subst ht; rfl
  have hp : t.plan = s.plan := by subst ht; rfl
  have reported : Quiet t (reportRate l (if answer = none then reportLane .memoUnavailable l t else t)) :=
    (Quiet.ite (quiet_setMail _) (Quiet.refl t)).trans (quiet_setMail _)
  refine ⟨?_, ?_, fun k => ?_⟩
  · rw [leaveWait_eq, State.setLane_fe, reported.fe, hf]
  · rw [leaveWait_eq, State.setLane_plan, reported.plan, hp]
  · rw [leaveWait_lane, reported.lane, reported.lane]
    split
    · next e =>
      rw [← e, own, ← hf, ← reported.fe]
      exact .leftWait _ (fun b => ⟨b, rfl⟩) id id
    · next e => rw [other k e]; exact (Lane.AsksAlike.refl _).eases

theorem eases_takeRestartAnswer (l : LaneId) (answer : Option MemoId) : Eases s (takeRestartAnswer l answer s) := by
  unfold takeRestartAnswer
  rw [leaveWait_eq, State.modLane, State.setLane_setLane]
  refine eases_setLane ?_
  rw [State.setLane_lane, if_pos rfl]
  exact Lane.Eases.leftWait (s.setLane l _) (fun b => ⟨b, rfl⟩) id id

theorem eases_discardAnswer (l : LaneId) : Eases s (discardAnswer l s) :=
  AsksAlike.eases (asksAlike_modLane fun _ => ⟨rfl, rfl, rfl, rfl⟩)

/-! ### Releases (R85, R131, R140, R166) -/

theorem eases_freeLane (l : LaneId) : Eases s (freeLane l s) where
  fe := (touches_freeLane s l).same .fe (by decide)
  entries := congrArg PlanBlock.entries ((touches_freeLane s l).same .plan (by decide))
  lanes k := by
    rw [freeLane_lane]
    split
    · next e => rw [← e]; exact .of_free rfl
    · exact (Lane.AsksAlike.refl _).eases

theorem eases_releaseLane (l : LaneId) : Eases s (releaseLane l s) := (eases_freeLane l).quiet (quiet_setMail _)

theorem eases_lowerShare (l : LaneId) : Eases s (lowerShare l s) := by
  unfold lowerShare
  have lowered : ∀ x, Eases s (s.setAdmLane l x) := fun x => (quiet_setAdm _).eases
  refine Eases.ite (Eases.ite ((lowered _).trans (eases_releaseLane l)) ?_) (lowered _)
  exact (lowered _).trans (AsksAlike.eases (asksAlike_modLane fun _ => ⟨rfl, rfl, rfl, rfl⟩))

theorem eases_removeSub (p : Port) (i : SubId) (v : Sub) : Eases s (removeSub p i v s) := by
  unfold removeSub
  exact (((touches_unless s _ p _).quiet (by decide)).trans (quiet_setAdm _)).eases.trans (eases_lowerShare _)

theorem quiet_raiseNotice (n : Notice) (p : Port) : Quiet s (raiseNotice n p s) :=
  (touches_raiseNotice s n p).quiet (by decide)

theorem eases_removeAll (p : Port) : Eases s (removeAll p s) := by
  refine Eases.forEach (fun i t => ?_) _ s
  unfold removeWithNotice
  split
  · exact Eases.refl t
  · exact (eases_removeSub p i _).quiet (quiet_raiseNotice _ p)

theorem eases_expireHold (p : Port) : Eases s (expireHold p s) := by
  have emptied : ∀ v : State, Quiet v (reportPort .portExpired p (restoreDefaults p (emptyQueue p v))) := fun v =>
    (((touches_emptyQueue v p).quiet (by decide)).trans
      ((touches_restoreDefaults _ p).quiet (by decide))).trans (quiet_setMail _)
  exact ((quiet_setPort p _).eases.trans (eases_removeAll p)).quiet (emptied _)

theorem quiet_takeReports : Quiet s (takeReports s) := (touches_takeReports s).quiet (by decide)

theorem eases_handLinger (before : Settings) : Eases s (handLinger before s) :=
  Eases.ite (Eases.refl s) (Eases.forEach (fun l _ => eases_releaseLane l) _ s)

theorem eases_handHold (before : Settings) : Eases s (handHold before s) :=
  Eases.ite (Eases.refl s) (Eases.forEach (fun p _ => quiet_takeReports.eases.trans (eases_expireHold p)) _ s)

/-! ## The commands -/

/-- The lanes' commands (chapter 4), and those of the plan that keep its entries. -/
def isEasing : Instr → Bool
  | .planDiscard | .planLock _ | .lookupAnswer _ | .restartAllocationAnswer _ | .signalPresent _ | .senseTimeout _
  | .carrierFound _ _ _ _ | .carrierTimeout _ | .frameDecoded _ _ _ _ | .frameTimeout _ | .signallingMatch _ _
  | .signallingMismatch _ | .verifyTimeout _ | .streamSync _ | .streamTimeout _ | .syncLost _ | .syncRegained _
  | .coastExpiry _ | .recheckTimerExpiry _ | .recheck _ _ _ _ _ _ | .lanePacket _ _ _ | .errorRateWindowComplete _
  | .unsettledExpiry _ | .retryExpiry _ => true
  | _ => false

/-- A lane in a timed stage demodulates. -/
theorem demodulates_of_inStage {l : LaneId} {st : Stage} (h : s.inStage l st = true) (timed : st.timed = true) :
    (s.lane l).state.demodulates = true := by
  rw [of_decide_eq_true h]
  exact timed

theorem inStage_of_stageExpired {l : LaneId} {st : Stage} (h : s.stageExpired l st = true) : s.inStage l st = true :=
  (Bool.and_eq_true_iff.mp h).1

theorem eases_planDiscard (d : DiscardAsk) : Eases s (planDiscard d s) := by
  unfold planDiscard
  have discarded : Eases s (discardMemo d.index (s.setPlan { s.plan with discard := none })) :=
    ((touches_discardMemo _ _).quiet (by decide)).after (eases_setPlan rfl)
  simp only
  split
  · exact discarded
  · exact discarded.quiet (quiet_respond _ _ _)

theorem exec_eases {c : Instr} (hc : isEasing c = true) : Yields (Eases s) (exec c s) := by
  have same : Eases s s := Eases.refl s
  cases c with
  | planDiscard =>
    simp only [exec, execPlanDiscard]
    split
    exacts [same, (eases_planDiscard _).quiet (Quiet.refl _).settle]
  | planLock p =>
    simp only [exec, execPlanLock]
    split
    exacts [same, (quiet_respond p _ _).settle.after (eases_setPlan rfl)]
  | lookupAnswer l =>
    simp only [exec, execLookupAnswer]
    split
    · exact yields_ite (fun _ => (quiet_setMail _).eases.trans (eases_takeLookupAnswer l _))
        ((quiet_setMail _).eases.trans (eases_discardAnswer l))
    · exact same
  | restartAllocationAnswer l =>
    simp only [exec, execRestartAllocationAnswer]
    split
    · exact yields_ite (fun _ => (quiet_setMail _).eases.trans (eases_takeRestartAnswer l _))
        ((quiet_setMail _).eases.trans (eases_discardAnswer l))
    · exact same
  | signalPresent l =>
    simp only [exec, execSignalPresent]
    split
    · next h =>
      have d := demodulates_of_inStage h rfl
      exact yields_ite (fun _ => eases_enterStage _ d rfl) (eases_enterStage _ d rfl)
    · exact same
  | senseTimeout l =>
    exact yields_ite (fun h => eases_enterHoldoff (LaneState.busy_of_demodulates
      (demodulates_of_inStage (inStage_of_stageExpired h) rfl)) (by decide)) same
  | carrierFound l offset mode guard =>
    exact yields_ite (fun h => eases_carrierFound _ _ _ (demodulates_of_inStage h rfl)) same
  | carrierTimeout l | frameTimeout l =>
    refine yields_ite (fun h => (asksAlike_clearFields _ l).eases.trans (eases_countAttempt ?_)) same
    rw [((asksAlike_clearFields _ l).lanes l).state]
    exact demodulates_of_inStage (inStage_of_stageExpired h) rfl
  | frameDecoded l constellation codeRate cell =>
    exact yields_ite (fun h => eases_frameDecoded _ _ _ (demodulates_of_inStage h rfl)) same
  | signallingMatch l cell =>
    refine yields_ite (fun h => (asksAlike_writeCell cell l).eases.trans (eases_enterStage _ ?_ rfl)) same
    rw [((asksAlike_writeCell cell l).lanes l).state]
    exact demodulates_of_inStage h rfl
  | signallingMismatch l => exact yields_ite (fun h => eases_mismatch (demodulates_of_inStage h rfl)) same
  | verifyTimeout l =>
    exact yields_ite (fun h => eases_mismatch (demodulates_of_inStage (inStage_of_stageExpired h) rfl)) same
  | streamSync l =>
    refine yields_ite (fun h => ?_) same
    have locked := eases_enterLocked (demodulates_of_inStage h rfl)
    unfold streamSync
    simp only
    split
    exacts [locked, locked.quiet (quiet_setMail _)]
  | streamTimeout l =>
    exact yields_ite
      (fun h => eases_countAttempt (demodulates_of_inStage (inStage_of_stageExpired h) rfl)) same
  | syncLost l =>
    exact yields_ite
      (fun h => (quiet_setMail _).after (eases_modLane (.of_demodulates (by rw [h]; rfl) rfl rfl))) same
  | syncRegained l => exact yields_ite (fun h => eases_enterLocked (by rw [h]; rfl)) same
  | coastExpiry l =>
    refine yields_ite (fun h => ?_) same
    have unsettled : AsksAlike s (setUnsettled l (reportLane .lockLost l s)) :=
      (quiet_setMail _).asksAlike.trans (asksAlike_setUnsettled l)
    refine unsettled.eases.trans (eases_restartLane ?_)
    rw [(unsettled.lanes l).state, h.1]
    decide
  | recheckTimerExpiry l | unsettledExpiry l =>
    exact yields_ite (fun _ => AsksAlike.eases (asksAlike_modLane fun _ => ⟨rfl, rfl, rfl, rfl⟩)) same
  | recheck l mode guard constellation codeRate cell =>
    simp only [exec, execRecheck]
    split
    · have read : AsksAlike s (s.modLane l (fun x => { x with readPending := false })) :=
        asksAlike_modLane fun _ => ⟨rfl, rfl, rfl, rfl⟩
      exact yields_ite
        (fun _ => ((read.trans (asksAlike_changeSignalling l _ _ _ _)).trans (asksAlike_recheckCell l cell)).eases)
        (read.trans (asksAlike_recheckCell l cell)).eases
    · exact same
  | lanePacket l outcome bytes =>
    refine yields_ite (fun _ => (quiet_setMail _).after (asksAlike_modLane fun x => ?_).eases) same
    unfold Lane.addToWindow
    cases outcome <;> simp only <;> split <;> exact ⟨rfl, rfl, rfl, rfl⟩
  | errorRateWindowComplete l =>
    simp only [exec, execErrorRateWindowComplete]
    split
    · exact same
    · refine Eases.trans ?_ (asksAlike_completeWindow l _).eases
      exact AsksAlike.eases (asksAlike_modLane fun _ => ⟨rfl, rfl, rfl, rfl⟩)
  | retryExpiry l =>
    refine yields_ite (fun h => eases_restartLane ?_) same
    rcases h.1 with e | e <;> rw [e] <;> decide
  | _ => cases hc

end Sys2Proof.Machine
end

section
/-! The front end's own operations (chapter 3): the moves toward the target level, the moves of the window, the feed's
releases and cuts, and the assignment of a lane. -/

namespace Sys2Proof.Machine

variable {s t u : State} {x y : Lane} {l k : LaneId}

/-! ## The records the statements speak of -/

theorem leftWait_eq_sensing (s : State) (x : Lane) : s.leftWait x = sensing s x := by
  have usable : s.fe.usable = true ↔ s.fe.state = .active ∧ (s.fe.feed = .on ∨ s.fe.feed = .off) := by
    simp [FrontEnd.usable]
  have tuned : s.tuning x = (sensed s x).tuned := by
    unfold State.tuning sensed
    cases x.channel with
    | none => rfl
    | some c =>
      simp only [Option.bind_some]
      cases s.entry c <;> cases x.params.offset <;> simp
  unfold State.leftWait sensing
  simp only [usable]
  split
  · rw [tuned]; rfl
  · rfl

theorem length_restartAsked (x : Lane) : (restartAsked x).length = x.asks.toNat := by
  unfold restartAsked Lane.asks
  cases x.memo <;> cases x.channel <;> cases x.lookupPending <;> rfl

/-- A restart puts the lane back in WAIT, from where it goes on where R66 lets it. -/
theorem restarted_eq_leftWait (s : State) (x : Lane) : s.restarted x = s.leftWait (restarted x) := by
  unfold State.restarted restarted
  rw [length_restartAsked]
  rfl

theorem unanswered_eq (x : Lane) : x.unanswered = unansweredBy x := by
  unfold Lane.unanswered unansweredBy flag
  cases x.lookupPending <;> rfl

theorem released_eq_freed (x : Lane) : x.released = freed x := by
  unfold Lane.released freed
  rw [unanswered_eq]
  rfl

/-- Leaving WAIT twice is leaving it once. -/
theorem leftWait_leftWait (s : State) (x : Lane) : s.leftWait (s.leftWait x) = s.leftWait x := by
  obtain ⟨-, -, h⟩ | ⟨hn, h⟩ := s.leftWait_cases x
  · exact State.leftWait_of_not fun ⟨⟨hw, _⟩, _⟩ => by rw [h] at hw; cases hw
  · rw [h, h]

/-! ## The target level (R34) -/

theorem laneBusy_iff : s.laneBusy l = true ↔ (s.lane l).state ≠ .free := decide_eq_true_iff

theorem target_eq_active : s.target = .active ↔ ∃ l, (s.lane l).state ≠ .free := by
  unfold State.target
  by_cases h : allLanes.any s.laneBusy = true
  · rw [if_pos h]
    obtain ⟨l, -, busy⟩ := List.any_eq_true.mp h
    exact ⟨fun _ => ⟨l, laneBusy_iff.mp busy⟩, fun _ => rfl⟩
  · rw [if_neg h]
    refine ⟨fun e => ?_, fun ⟨l, busy⟩ => absurd (List.any_eq_true.mpr ⟨l, mem_allLanes l, laneBusy_iff.mpr busy⟩) h⟩
    split at e <;> split at e <;> cases e

/-- The target follows from which lanes are busy, from the settings and from the ports' demands. -/
theorem target_congr (lanes : ∀ l, t.laneBusy l = s.laneBusy l) (plan : t.plan = s.plan)
    (demands : ∀ p, t.demandsIdle p = s.demandsIdle p) : t.target = s.target := by
  have h1 : t.laneBusy = s.laneBusy := funext lanes
  have h2 : t.demandsIdle = s.demandsIdle := funext demands
  unfold State.target
  rw [h1, h2, plan]

/-! ## The moves toward the target level (R35 to R38) -/

/-- The minimum residency is over (R38): the active-since stamp is dropped or at least 2,000 ms old. -/
def FrontEnd.residencyOver (f : FrontEnd) (now : Time) : Bool :=
  f.activeSince.all (fun t0 => decide (2000 ≤ (now - t0).toNat))

theorem residencyOver_eq (s : State) : s.residencyOver = s.fe.residencyOver s.now := by
  unfold State.residencyOver FrontEnd.residencyOver
  cases s.fe.activeSince <;> rfl

theorem steppedDown_idle (f : FrontEnd) (now : Time) :
    steppedDown f now .idle =
      if f.residencyOver now = true then { f with state := .idle, activeSince := none } else f := by
  unfold steppedDown FrontEnd.residencyOver
  cases f.activeSince <;> rfl

theorem steppedDown_off (f : FrontEnd) (now : Time) :
    steppedDown f now .off =
      if f.residencyOver now = true then { f with state := .off, activeSince := none } else f := by
  unfold steppedDown FrontEnd.residencyOver
  cases f.activeSince <;> rfl

/-- A step down keeps the front end or, once the minimum residency is over, takes it to a level below ACTIVE without its
active-since stamp. -/
theorem steppedDown_cases (f : FrontEnd) (now : Time) (level : Target) :
    steppedDown f now level = f ∨ level ≠ .active ∧
      (steppedDown f now level = { f with state := .idle, activeSince := none } ∨
        steppedDown f now level = { f with state := .off, activeSince := none }) := by
  cases level with
  | active => exact .inl rfl
  | idle => rw [steppedDown_idle]; split <;> simp
  | off => rw [steppedDown_off]; split <;> simp

/-- The front end after a move toward a level (R36, R38). -/
def FrontEnd.toward (f : FrontEnd) (now : Time) (level : Target) : FrontEnd :=
  match f.state, level with
  | .off, .idle => { f with state := .idle, idleSince := some now }
  | .off, .active => { f with state := .waking, wakeEnd := some (later now wakeFromOffMs) }
  | .idle, .off => { f with state := .off, idleSince := none }
  | .idle, .active =>
    { f with state := .waking, wakeEnd := some (later now (wakeFromIdle now f.idleSince)), idleSince := none }
  | .active, level => steppedDown f now level
  | _, _ => f

theorem steer_eq : steer s = s.setFe (s.fe.toward s.now s.target) := by
  unfold steer FrontEnd.toward
  rw [residencyOver_eq]
  split <;> simp only [*]
  case h_10 => rw [steppedDown_idle]; split <;> rfl
  case h_11 => rw [steppedDown_off]; split <;> rfl
  all_goals rfl

theorem steered_eq (s : State) (after : Target) :
    steered s after = if after = s.target then s.fe else s.fe.toward s.now after := by
  unfold steered FrontEnd.toward
  split
  · rfl
  · cases s.fe.state <;> cases after <;> rfl

/-- What a move toward a level can do: the front end stays; or it wakes, from OFF or IDLE, toward ACTIVE; or it takes a
level below ACTIVE, for a target below ACTIVE. -/
theorem FrontEnd.toward_cases (f : FrontEnd) (now : Time) (level : Target) :
    (f.toward now level = f ∧ (level = .active → f.state ≠ .off ∧ f.state ≠ .idle)) ∨
    ((f.state = .off ∨ f.state = .idle) ∧ level = .active ∧ ∃ t0,
      f.toward now level = { f with
        state := .waking, wakeEnd := some t0, idleSince := if f.state = .off then f.idleSince else none }) ∨
    (level ≠ .active ∧ (f.toward now level = { f with state := .idle, activeSince := none } ∧ f.state = .active ∨
      f.toward now level = { f with state := .idle, idleSince := some now } ∧ f.state = .off ∨
      f.toward now level = { f with state := .off, activeSince := none } ∧ f.state = .active ∨
      f.toward now level = { f with state := .off, idleSince := none } ∧ f.state = .idle)) := by
  unfold FrontEnd.toward
  cases hs : f.state with
  | active =>
    obtain h | ⟨hl, h | h⟩ := steppedDown_cases f now level
    · exact .inl ⟨h, fun _ => ⟨by decide, by decide⟩⟩
    · exact .inr (.inr ⟨hl, .inl ⟨h, rfl⟩⟩)
    · exact .inr (.inr ⟨hl, .inr (.inr (.inl ⟨h, rfl⟩))⟩)
  | off => cases level <;> simp
  | idle => cases level <;> simp
  | waking => cases level <;> simp
  | retuning => cases level <;> simp

theorem FrontEnd.toward_window (f : FrontEnd) (now : Time) (level : Target) :
    (f.toward now level).window = f.window := by
  obtain ⟨h, -⟩ | ⟨-, -, t0, h⟩ | ⟨-, ⟨h, -⟩ | ⟨h, -⟩ | ⟨h, -⟩ | ⟨h, -⟩⟩ := f.toward_cases now level <;> rw [h]

theorem FrontEnd.toward_feed (f : FrontEnd) (now : Time) (level : Target) :
    (f.toward now level).feed = f.feed := by
  obtain ⟨h, -⟩ | ⟨-, -, t0, h⟩ | ⟨-, ⟨h, -⟩ | ⟨h, -⟩ | ⟨h, -⟩ | ⟨h, -⟩⟩ := f.toward_cases now level <;> rw [h]

/-- A move toward a level makes no input usable, and takes it away only for a target below ACTIVE. -/
theorem FrontEnd.toward_usable (f : FrontEnd) (now : Time) (level : Target) :
    (f.toward now level).usable = f.usable ∨ (f.toward now level).usable = false ∧ level ≠ .active := by
  have below : ∀ g : FrontEnd, g.state ≠ .active → g.usable = false := fun g h => by simp [FrontEnd.usable, h]
  obtain ⟨h, -⟩ | ⟨hs, -, t0, h⟩ | ⟨hl, ⟨h, -⟩ | ⟨h, -⟩ | ⟨h, -⟩ | ⟨h, -⟩⟩ := f.toward_cases now level <;> rw [h]
  · exact .inl rfl
  · left
    rw [below f (by rcases hs with e | e <;> rw [e] <;> decide), below _ (by simp)]
  all_goals exact .inr ⟨below _ (by simp), hl⟩

/-- The front end is out of OFF and IDLE. -/
def FrontEnd.powered (f : FrontEnd) : Prop := f.state ≠ .off ∧ f.state ≠ .idle

theorem FrontEnd.toward_powered (f : FrontEnd) (now : Time) : (f.toward now .active).powered := by
  obtain ⟨h, hp⟩ | ⟨-, -, t0, h⟩ | ⟨hl, -⟩ := f.toward_cases now .active
  · rw [h]; exact hp rfl
  · rw [h]; exact ⟨by simp, by simp⟩
  · exact absurd rfl hl

/-! ## The front end's rules (R33, R50, R51) -/

theorem frontEndLaw_toward {f : FrontEnd} (now : Time) (level : Target) (h : FrontEndLaw f) :
    FrontEndLaw (f.toward now level) := by
  have noWake : f.state ≠ .waking → f.wakeEnd = none := fun hs =>
    Option.not_isSome_iff_eq_none.mp fun e => hs (h.wakeEnd.mp e)
  have noRetune : f.state ≠ .retuning → f.retuneEnd = none := fun hs =>
    Option.not_isSome_iff_eq_none.mp fun e => hs (h.retuneEnd.mp e)
  have noActive : f.state ≠ .active → f.state ≠ .retuning → f.activeSince = none := fun hs hr =>
    Option.not_isSome_iff_eq_none.mp fun e => (h.activeSince e).elim hs hr
  have noIdle : f.state ≠ .idle → f.idleSince = none := fun hs =>
    Option.not_isSome_iff_eq_none.mp fun e => hs (h.idleSince e)
  obtain ⟨e, -⟩ | ⟨hs, -, t0, e⟩ | ⟨-, ⟨e, hs⟩ | ⟨e, hs⟩ | ⟨e, hs⟩ | ⟨e, hs⟩⟩ := f.toward_cases now level <;> rw [e]
  · exact h
  · rcases hs with hs | hs <;>
      exact { h with
        wakeEnd := by simp
        activeSince := by simp [noActive, hs]
        idleSince := by simp [noIdle, hs]
        retuneEnd := by simp [noRetune, hs] }
  all_goals
    exact { h with
      wakeEnd := by simp [noWake, hs]
      activeSince := by simp [noActive, hs]
      idleSince := by simp [noIdle, hs]
      retuneEnd := by simp [noRetune, hs] }

theorem FrontEndLaw.wakeEnd_none {f : FrontEnd} (h : FrontEndLaw f) (hs : f.state ≠ .waking) : f.wakeEnd = none :=
  Option.not_isSome_iff_eq_none.mp fun e => hs (h.wakeEnd.mp e)

theorem FrontEndLaw.retuneEnd_none {f : FrontEnd} (h : FrontEndLaw f) (hs : f.state ≠ .retuning) :
    f.retuneEnd = none :=
  Option.not_isSome_iff_eq_none.mp fun e => hs (h.retuneEnd.mp e)

theorem FrontEndLaw.idleSince_none {f : FrontEnd} (h : FrontEndLaw f) (hs : f.state ≠ .idle) : f.idleSince = none :=
  Option.not_isSome_iff_eq_none.mp fun e => hs (h.idleSince e)

/-- A wake completes (R37). -/
def FrontEnd.awake (f : FrontEnd) (now : Time) : FrontEnd :=
  { f with state := .active, wakeEnd := none, activeSince := some now }

theorem frontEndLaw_awake {f : FrontEnd} {now : Time} (hs : f.state = .waking) (h : FrontEndLaw f) :
    FrontEndLaw (f.awake now) :=
  { h with
    wakeEnd := by simp [FrontEnd.awake]
    activeSince := by simp [FrontEnd.awake]
    idleSince := by simp [FrontEnd.awake, h.idleSince_none, hs]
    retuneEnd := by simp [FrontEnd.awake, h.retuneEnd_none, hs] }

/-- A retune completes (R43). -/
def FrontEnd.tuned (f : FrontEnd) : FrontEnd := { f with state := .active, retuneEnd := none }

theorem frontEndLaw_tuned {f : FrontEnd} (hs : f.state = .retuning) (h : FrontEndLaw f) : FrontEndLaw f.tuned :=
  { h with
    wakeEnd := by simp [FrontEnd.tuned, h.wakeEnd_none, hs]
    activeSince := by simp [FrontEnd.tuned]
    idleSince := by simp [FrontEnd.tuned, h.idleSince_none, hs]
    retuneEnd := by simp [FrontEnd.tuned] }

theorem retuneCompletion_eq (s : State) :
    retuneCompletion s =
      steer (raiseNoticeAll (.window (allLeaveWait (s.setFe s.fe.tuned)).fe.window
        (allLeaveWait (s.setFe s.fe.tuned)).fe.state .retuneCompletion) (allLeaveWait (s.setFe s.fe.tuned))) := by
  unfold retuneCompletion State.modFe FrontEnd.tuned
  rfl

/-- A clip, and 60,000 ms without one (R50). -/
def FrontEnd.clipped (f : FrontEnd) : FrontEnd :=
  { f with attenuator := min (f.attenuator + 2) 30, quiet := 0, clipMute := clipMuteMs }

def FrontEnd.quieted (f : FrontEnd) : FrontEnd := { f with attenuator := f.attenuator - 2, quiet := 0 }

theorem frontEndLaw_clipped {f : FrontEnd} (h : FrontEndLaw f) : FrontEndLaw f.clipped :=
  { h with
    attenuator := by have := h.attenuator; simp only [FrontEnd.clipped]; omega
    quiet := Nat.zero_le _ }

theorem frontEndLaw_quieted {f : FrontEnd} (h : FrontEndLaw f) : FrontEndLaw f.quieted :=
  { h with
    attenuator := by have := h.attenuator; simp only [FrontEnd.quieted]; omega
    quiet := Nat.zero_le _ }

/-- FEED_SET takes the feed to ON or OFF (R51). -/
def FrontEnd.switched (f : FrontEnd) (feed : FeedState) : FrontEnd :=
  { f with feed, retryCount := 0, lastRestore := none, feedWaitEnd := none }

theorem frontEndLaw_switched {f : FrontEnd} {feed : FeedState} (hf : feed = .on ∨ feed = .off) (h : FrontEndLaw f) :
    FrontEndLaw (f.switched feed) :=
  { h with
    feedWait := by rcases hf with rfl | rfl <;> simp [FrontEnd.switched]
    retries := by simp [FrontEnd.switched]
    retriesWaiting := by simp [FrontEnd.switched] }

theorem switchFeed_eq (feed : FeedState) (s : State) :
    switchFeed feed s = raiseFeedNotice (releaseFeedHoldoffs (s.setFe (s.fe.switched feed))) := rfl

/-- The feed is restored (R53). -/
def FrontEnd.restored (f : FrontEnd) (now : Time) : FrontEnd :=
  { f with feed := .on, retryCount := f.retryCount + 1, lastRestore := some now, feedWaitEnd := none }

theorem frontEndLaw_restored {f : FrontEnd} {now : Time} (hf : f.feed = .faultWait) (h : FrontEndLaw f) :
    FrontEndLaw (f.restored now) :=
  { h with
    feedWait := by simp [FrontEnd.restored]
    retries := Nat.succ_le_succ (h.retriesWaiting hf)
    retriesWaiting := by simp [FrontEnd.restored] }

theorem restoreFeed_eq (s : State) :
    restoreFeed s = raiseFeedNotice (releaseFeedHoldoffs (s.setFe (s.fe.restored s.now))) := rfl

/-- An overcurrent latches the feed rather than wait (R52). -/
def State.latches (s : State) : Bool := s.withinRestore && decide (s.settledRetries = 3)

/-- The front end after an overcurrent (R52). -/
def State.cutFrontEnd (s : State) : FrontEnd :=
  { s.fe with
    retryCount := s.settledRetries
    feed := if s.latches then .latched else .faultWait
    feedWaitEnd := if s.latches then none else some (later s.now feedWaitMs) }

theorem overcurrent_eq (s : State) :
    overcurrent s = raiseFeedNotice (forEach allLanes feedHoldoff
      (reportDevice (if s.latches then .feedLatched else .feedFault) (s.setFe s.cutFrontEnd))) := rfl

/-- A count that rises out of FAULT_WAIT is 3 at most, since at 3 the feed latches (R52). -/
theorem frontEndLaw_cut (h : FrontEndLaw s.fe) : FrontEndLaw s.cutFrontEnd := by
  have settled : s.settledRetries ≤ 3 ∧ (s.withinRestore = false → s.settledRetries ≤ 1) := by
    have := h.retries
    unfold State.settledRetries
    cases s.withinRestore with
    | true => simpa using this
    | false => by_cases c : 0 < s.fe.retryCount <;> simp [c]; omega
  unfold State.cutFrontEnd
  cases hl : s.latches with
  | true => exact { h with feedWait := by simp, retries := settled.1, retriesWaiting := by simp }
  | false =>
    refine { h with feedWait := by simp, retries := settled.1, retriesWaiting := fun _ => ?_ }
    show s.settledRetries ≤ 2
    cases hw : s.withinRestore with
    | false => exact (settled.2 hw).trans (by decide)
    | true =>
      have : s.settledRetries ≠ 3 := by simpa [State.latches, hw] using hl
      have := settled.1
      omega

theorem quiet_raiseFeedNotice (s : State) : Quiet s (raiseFeedNotice s) :=
  (touches_raiseNoticeAll s _).quiet (by decide)

/-! ## Moves of the window (R42, R43) -/

/-- The front end right after a move of the window (R42, R43). -/
def FrontEnd.moved (f : FrontEnd) (now : Time) (position : Nat) : FrontEnd :=
  if f.state = .active then
    { f with window := position, lastMove := some now, state := .retuning, retuneEnd := some (later now retuneMs) }
  else { f with window := position, lastMove := some now }

theorem leaves_eq (s : State) (position : Nat) (l : LaneId) :
    leaves s position l = (s.lingering l && !s.laneFits position l) := rfl

theorem mem_misfits {position : Nat} : l ∈ s.misfits position ↔ leaves s position l = true := by
  rw [leaves_eq]
  exact List.mem_filter.trans (and_iff_right (mem_allLanes l))

theorem nodup_misfits (s : State) (position : Nat) : (s.misfits position).Nodup := List.Nodup.filter _ (by decide)

/-- The move of the front end's window, and the releases of the lanes that do not fit it. -/
def clearWindow (position : Nat) (s : State) : State :=
  forEach (s.misfits position) releaseWithin
    (s.setFe { s.fe with window := position, lastMove := some s.now })

/-- The front end of a move of the window, and the lanes it releases and restarts, before its notice. -/
def shiftWindow (position : Nat) (s : State) : State :=
  if s.fe.state = .active then
    restartBusyLanes ((clearWindow position s).setFe (s.fe.moved s.now position))
  else clearWindow position s

theorem touches_clearWindow (position : Nat) : Touches [.fe, .lanes, .adm, .mail] s (clearWindow position s) :=
  ((touches_setFe s _).mono (by decide)).trans
    ((Touches.forEach (fun l t => touches_releaseWithin t l) _ _).mono (by decide))

theorem clearWindow_fe (position : Nat) :
    (clearWindow position s).fe = { s.fe with window := position, lastMove := some s.now } :=
  (Touches.forEach (fun l t => touches_releaseWithin t l) _ _).same .fe (by decide)

theorem clearWindow_now (position : Nat) : (clearWindow position s).now = s.now :=
  (touches_clearWindow position).same .now (by decide)

theorem moveWindow_eq (position : Nat) :
    moveWindow position s =
      raiseNoticeAll (.window position (shiftWindow position s).fe.state .move) (shiftWindow position s) := by
  have cleared : forEach ((s.modFe fun f => { f with window := position, lastMove := some s.now }).misfits position)
      releaseWithin (s.modFe fun f => { f with window := position, lastMove := some s.now }) = clearWindow position s :=
    rfl
  unfold moveWindow
  simp only
  rw [cleared]
  unfold shiftWindow State.modFe FrontEnd.moved
  rw [clearWindow_fe, clearWindow_now]
  split <;> rfl

theorem shiftWindow_fe (position : Nat) : (shiftWindow position s).fe = s.fe.moved s.now position := by
  unfold shiftWindow
  split
  · exact (touches_restartBusyLanes _).same .fe (by decide)
  · next h => rw [clearWindow_fe, FrontEnd.moved, if_neg h]

theorem touches_shiftWindow (position : Nat) : Touches [.fe, .lanes, .adm, .mail] s (shiftWindow position s) := by
  have cleared := touches_clearWindow (s := s) position
  unfold shiftWindow
  exact Touches.ite ((cleared.trans ((touches_setFe _ _).mono (by decide))).trans
    ((touches_restartBusyLanes _).mono (by decide))) cleared

theorem quiet_shiftWindow_moveWindow (position : Nat) : Quiet (shiftWindow position s) (moveWindow position s) := by
  rw [moveWindow_eq]
  exact (touches_raiseNoticeAll _ _).quiet (by decide)

theorem clearWindow_lane (position : Nat) :
    (clearWindow position s).lane k = if leaves s position k = true then freed (s.lane k) else s.lane k := by
  unfold clearWindow
  rw [forEach_lane k (g := Lane.released) (same := fun _ => True) (fun _ _ _ => trivial) _ _ _
    (nodup_misfits s position) trivial]
  · simp only [mem_misfits, released_eq_freed, State.setFe_lane]
  · intro x y t _
    rw [releaseWithin_lane]

theorem freed_state (x : Lane) : (freed x).state = .free := rfl

/-- What a move of the window makes of a lane (R42, R43, R87): a lingering lane that does not fit is FREE, and where a
retune starts every other lane that is not FREE restarts in WAIT. -/
theorem shiftWindow_lane (position : Nat) :
    (shiftWindow position s).lane k =
      if leaves s position k = true then freed (s.lane k)
      else if restarts s position k = true then restarted (s.lane k) else s.lane k := by
  unfold shiftWindow
  by_cases ha : s.fe.state = .active
  · rw [if_pos ha, restartBusyLanes_lane]
    have busy : ((clearWindow position s).setFe (s.fe.moved s.now position)).laneBusy k =
        restarts s position k := by
      unfold State.laneBusy restarts
      rw [State.setFe_lane, clearWindow_lane]
      cases h : leaves s position k <;> simp [ha, freed_state]
    have unusable : ∀ x, ((clearWindow position s).setFe (s.fe.moved s.now position)).leftWait x = x := fun x =>
      State.leftWait_of_not fun h => by simp [FrontEnd.usable, FrontEnd.moved, ha] at h
    rw [busy, restarted_eq_leftWait, unusable, State.setFe_lane, clearWindow_lane]
    cases h : leaves s position k
    · simp
    · simp [restarts, h]
  · rw [if_neg ha, clearWindow_lane]
    simp [restarts, ha]

/-! ## The assignment of a lane (R63, R129) -/

theorem assignLane_lane (x : PlanIndex) (rate : Option Nat) :
    (assignLane l x rate s).lane k = if l = k then assigned x (s.lane l) else s.lane k := by
  unfold assignLane reportState
  simp only [tellStore_eq, tellAdmission_eq, State.setMail_lane, State.setAdmLane_lane, dropReports, State.setLane_lane]
  rw [unanswered_eq]
  rfl

/-- The lane a choice takes: shared, it keeps its record but for its linger; otherwise it is assigned, after its release
where it is reclaimed. -/
theorem takeLane_lane (choice : LaneChoice) (x : PlanIndex) (rate : Option Nat) :
    (∃ l, choice = .share l ∧ ∀ k, (takeLane choice x rate s).lane k =
      if l = k then { s.lane l with lingerStart := none } else s.lane k) ∨
    ∃ y, ∀ k, (takeLane choice x rate s).lane k = if choice.lane = k then assigned x y else s.lane k := by
  cases choice with
  | share l =>
    exact .inl ⟨l, rfl, fun k => by simp [takeLane, raiseShare, State.modLane, State.modAdmLane]⟩
  | free l => exact .inr ⟨s.lane l, fun k => assignLane_lane x rate⟩
  | reclaim l =>
    refine .inr ⟨(s.lane l).released, fun k => ?_⟩
    simp only [takeLane, LaneChoice.lane]
    rw [assignLane_lane, releaseWithin_lane, releaseWithin_lane, if_pos rfl]
    by_cases e : l = k <;> simp [e]

end Sys2Proof.Machine
end

section
/-! Every command's effect on front end, lanes and plan entries, one constructor of `InputEffect` for each way; the parts a
command touches besides are passed over by `Quiet`. -/

namespace Sys2Proof.Machine

variable {s t u r : State} {l k : LaneId}

/-- A changed front end with the same window, and with its rules kept. -/
structure FrontEnd.Adjusted (f g : FrontEnd) : Prop where
  window : g.window = f.window
  law : FrontEndLaw f → FrontEndLaw g

/-- A position that a command may move the window to: every shared lane's channel fits there (R31, R46). -/
structure State.MovesTo (s : State) (position : Nat) : Prop where
  isPosition : isPosition position
  shared : ∀ l, 0 < (s.admLane l).share → s.laneFits position l = true

/-- Where a SUBSCRIBE finds a channel's place: in the window as it stands, or in the pending move's (R126). -/
def State.holds (s : State) (e : PlanEntry) : Option Nat → Prop
  | none => fits s.fe.window e = true
  | some position => s.MovesTo position ∧ fits position e = true

/-- The window moves where a move is pending (R129). -/
def State.moved (s : State) : Option Nat → State
  | none => s
  | some position => moveWindow position s

inductive InputEffect (s t : State) : Prop
  /-- Every lane asks no more than before. -/
  | eases (h : Eases s t)
  /-- Every lane asks no more, and the front end follows a changed target (R35). -/
  | retargets (r u : State) (before : Eases s r) (h : Eases r u) (after : Quiet (retarget r.target u) t)
  /-- The front end's stamps, attenuator or quiet time change. -/
  | adjusts (f : FrontEnd) (after : Quiet (s.setFe f) t) (ok : s.fe.Adjusted f) (state : f.state = s.fe.state)
      (feed : f.feed = s.fe.feed)
  /-- The same, and the front end takes the step down that waited for it (R38). -/
  | steps (f : FrontEnd) (after : Quiet (steer (s.setFe f)) t) (ok : s.fe.Adjusted f) (state : f.state = s.fe.state)
      (feed : f.feed = s.fe.feed)
  /-- The front end becomes ACTIVE (R37). -/
  | wakes (f : FrontEnd) (after : Quiet (allLeaveWait (s.setFe f)) t) (ok : s.fe.Adjusted f)
      (before : s.fe.state ≠ .active) (state : f.state = .active) (feed : f.feed = s.fe.feed)
  /-- A retune completes: the same, and a step down where the target has fallen (R43). -/
  | retunes (f : FrontEnd) (u : State) (after : Quiet (steer u) t) (notices : Quiet (allLeaveWait (s.setFe f)) u)
      (ok : s.fe.Adjusted f) (before : s.fe.state ≠ .active) (state : f.state = .active) (feed : f.feed = s.fe.feed)
  /-- The feed enters ON or OFF (R51, R53). -/
  | feeds (f : FrontEnd) (after : Quiet (releaseFeedHoldoffs (s.setFe f)) t) (ok : s.fe.Adjusted f)
      (state : f.state = s.fe.state) (feed : f.feed = .on ∨ f.feed = .off)
  /-- The feed is cut (R52). -/
  | cuts (f : FrontEnd) (u : State) (after : Quiet (forEach allLanes feedHoldoff u) t) (reports : Quiet (s.setFe f) u)
      (ok : s.fe.Adjusted f) (state : f.state = s.fe.state) (feed : f.feed = .faultWait ∨ f.feed = .latched)
  /-- A plan entry that no busy lane carries is written (R5). -/
  | writes (b : PlanBlock) (x : PlanIndex) (e : Option PlanEntry) (free : s.holdingLane x = none)
      (entries : b.entries = Tab.put s.plan.entries x e) (after : Quiet (s.setPlan b) t)
  /-- The window moves (R46). -/
  | moves (r : State) (position : Nat) (before : Quiet s r) (ok : r.MovesTo position)
      (after : Quiet (retarget r.target (moveWindow position r)) t)
  /-- A SUBSCRIBE is admitted (R129). -/
  | subscribes (r u : State) (move : Option Nat) (choice : LaneChoice) (x : PlanIndex) (e : PlanEntry)
      (rate : Option Nat) (before : Quiet s r) (entry : r.entry x = some e) (ok : r.holds e move)
      (takes : Quiet (takeLane choice x rate (r.moved move)) u) (after : Quiet (retarget r.target u) t)
  /-- A reset (R59, R90). -/
  | resets (fe : t.fe = FrontEnd.fresh) (lanes : ∀ l, t.lane l = Lane.fresh)

theorem InputEffect.of_quiet (h : Quiet s t) : InputEffect s t := .eases h.eases

/-- The front end follows a changed target behind a change that leaves every lane asking no more. -/
theorem InputEffect.retarget (after : Quiet (retarget r.target u) t) (before : Eases s r) (h : Eases r u) :
    InputEffect s t := .retargets r u before h after

/-! ## The plan's commands (chapter 1) -/

theorem holdingLane_eq_none {x : PlanIndex} :
    s.holdingLane x = none ↔ ∀ l, (s.lane l).state ≠ .free → (s.lane l).channel ≠ some x := by
  unfold State.holdingLane
  rw [List.find?_eq_none]
  constructor
  · intro h l busy hc
    exact h l (mem_allLanes l) (Bool.and_eq_true_iff.mpr ⟨laneBusy_iff.mpr busy, decide_eq_true hc⟩)
  · intro h l _ hx
    obtain ⟨busy, hc⟩ := Bool.and_eq_true_iff.mp hx
    exact h l (laneBusy_iff.mp busy) (of_decide_eq_true hc)

theorem inputEffect_planWrite (p : Port) (body : List Byte) : InputEffect s (settle (planWrite p body s)) := by
  unfold planWrite
  split
  · exact .of_quiet (quiet_respond p _ _).settle
  · split
    · exact .of_quiet (quiet_respond p _ _).settle
    · split
      · exact .of_quiet (quiet_respond p _ _).settle
      · next x e _ _ _ h => exact .writes _ x e h rfl (Quiet.refl _).settle

theorem inputEffect_installSet (p : Port) (body : List Byte) : InputEffect s (settle (installSet p body s)) := by
  unfold installSet
  simp only
  split
  · exact .of_quiet (quiet_respond p _ _).settle
  · have stored : Eases s (s.setPlan { s.plan with settings := (InstallBody.read body).apply s.plan.settings }) :=
      eases_setPlan rfl
    exact .retarget (quiet_respond p _ _).settle (Eases.refl s)
      ((stored.trans (eases_handLinger _)).trans (eases_handHold _))

/-! ## The admission controller's commands (chapter 6) -/

theorem quiet_readmit (p : Port) : Quiet s (readmit p s) := (touches_readmit s p).quiet (by decide)

theorem inputEffect_unsubscribe (p : Port) (body : List Byte) (before : Quiet s r) :
    InputEffect s (settle (unsubscribe p body r)) := by
  unfold unsubscribe
  split
  · exact .of_quiet (before.respond p _ _).settle
  · split
    · exact .of_quiet (before.respond p _ _).settle
    · next i _ _ u _ =>
      have removed : Eases r (raiseRemoved p i (respond p .ok (enc32 u.delivered ++ enc32 u.marked ++
          enc32 u.errorDropped ++ enc32 u.overflowDropped) (removeSub p i u r))) :=
        (eases_removeSub p i u).quiet ((quiet_respond p _ _).trans (quiet_raiseNotice _ p))
      exact .retarget (Quiet.refl _).settle before.eases
        (removed.quiet (Quiet.ite (Quiet.refl _) (quiet_readmit p)))

theorem inputEffect_portSetup (p : Port) (body : List Byte) (before : Quiet s r) :
    InputEffect s (settle (portSetup p body r)) := by
  unfold portSetup
  simp only
  split
  · exact .of_quiet (before.respond p _ _).settle
  · split
    · exact .of_quiet (before.respond p _ _).settle
    · unfold applySetup
      simp only
      refine .retarget (Quiet.settle (Quiet.respond (Quiet.ite (quiet_readmit p) (Quiet.refl _)) p _ _))
        before.eases ?_
      refine Quiet.eases (Quiet.trans ?_ (quiet_setAdm _))
      split
      · exact Quiet.refl r
      · exact (touches_applyQuota r p _).quiet (by decide)

theorem inputEffect_portReset (p : Port) (before : Quiet s r) : InputEffect s (settle (portReset p r)) :=
  .retarget (quiet_respond p _ _).settle before.eases
    ((eases_removeAll p).quiet (((touches_emptyUnsent _ p).quiet (by decide)).trans
      ((touches_restoreDefaults _ p).quiet (by decide))))

theorem isPosition_roundWindow (n : Nat) : isPosition (roundWindow n) := by
  unfold isPosition roundWindow Config.windowLow Config.windowHigh
  omega

theorem inputEffect_windowSet (p : Port) (body : List Byte) (before : Quiet s r) :
    InputEffect s (settle (windowSet p body r)) := by
  unfold windowSet
  simp only
  split
  · exact .of_quiet (before.respond p _ _).settle
  · split
    · exact .of_quiet (before.respond p _ _).settle
    · next fit =>
      split
      · exact .of_quiet (before.respond p _ _).settle
      · refine .moves r _ before ⟨isPosition_roundWindow _, fun l shared => ?_⟩ (quiet_respond p _ _).settle
        have h := List.find?_eq_none.mp fit l (mem_allLanes l)
        simpa [shared] using h

/-! ### SUBSCRIBE -/

theorem placement_eq_some {e : PlanEntry} {others : List PlanEntry} {position : Nat}
    (h : placement e others = some position) :
    isPosition position ∧ ∀ y ∈ e :: others, fits position y = true := by
  unfold placement at h
  simp only at h
  split at h
  · cases h
  · split at h
    · next all => exact Option.some.inj h ▸ ⟨isPosition_roundWindow _, List.all_eq_true.mp all⟩
    · split at h
      · next all => exact Option.some.inj h ▸ ⟨isPosition_roundWindow _, List.all_eq_true.mp all⟩
      · cases h

/-- A placement with the shared lanes' channels fits every shared lane (R31, R126). -/
theorem movesTo_of_placement {e : PlanEntry} {position : Nat} (h : placement e s.sharedEntries = some position) :
    s.MovesTo position ∧ fits position e = true := by
  obtain ⟨ok, all⟩ := placement_eq_some h
  refine ⟨⟨ok, fun l shared => ?_⟩, all e (List.mem_cons_self ..)⟩
  unfold State.laneFits
  split
  · rfl
  · next e' he =>
    refine all e' (List.mem_cons_of_mem e (List.mem_filterMap.mpr ⟨l, ?_, he⟩))
    exact List.mem_filter.mpr ⟨mem_allLanes l, decide_eq_true shared⟩

theorem laneAndCapacity_move {p : Port} {id i : SubId} {x : PlanIndex} {pend move : Option Nat} {choice : LaneChoice}
    {rate : Option Nat} {charge : Nat} (h : s.laneAndCapacity p id x pend = .accept i choice move rate charge) :
    move = pend := by
  unfold State.laneAndCapacity at h
  split at h
  · cases h
  · simp only at h
    split at h <;> cases h
    rfl

/-- An admitted SUBSCRIBE has found the channel's entry, and a place for it in the window (R125, R126). -/
theorem checkSubscribe_accept {p : Port} {r : SubscribeBody} {i : SubId} {choice : LaneChoice} {move rate : Option Nat}
    {charge : Nat} (h : s.checkSubscribe p r = .accept i choice move rate charge) :
    ∃ e, s.entry r.index = some e ∧ s.holds e move := by
  unfold State.checkSubscribe at h
  split at h
  · cases h
  · next e he =>
    refine ⟨e, he, ?_⟩
    split at h
    · cases h
    · split at h
      · cases h
      · split at h
        · cases h
        · cases h
        · cases h
        · next hc =>
          rw [laneAndCapacity_move h]
          unfold State.windowCheck at hc
          split at hc
          · next fit => exact fit
          · split at hc
            · cases hc
            · split at hc
              · cases hc
              · split at hc <;> cases hc
        · next position hc =>
          rw [laneAndCapacity_move h]
          unfold State.windowCheck at hc
          split at hc
          · cases hc
          · split at hc
            · cases hc
            · next place =>
              split at hc
              · cases hc
              · split at hc <;> cases hc
                exact movesTo_of_placement place

theorem inputEffect_subscribe (p : Port) (body : List Byte) (before : Quiet s r) :
    InputEffect s (settle (subscribe p body r)) := by
  unfold subscribe
  split
  · exact .of_quiet (before.respond p _ _).settle
  · split
    · exact .of_quiet (before.respond p _ _).settle
    · next b _ _ id choice move rate charge hv =>
      obtain ⟨e, he, ok⟩ := checkSubscribe_accept hv
      unfold createSub
      refine .subscribes r _ move choice b.index e rate before he ok ?_ (Quiet.refl _).settle
      cases move with
      | none => exact (((quiet_setAdm _).trans (quiet_setAdm _)).respond p _ _).trans (quiet_raiseNotice _ p)
      | some position => exact (((quiet_setAdm _).trans (quiet_setAdm _)).respond p _ _).trans (quiet_raiseNotice _ p)

/-! ## The ports' commands (chapter 8) -/

theorem quiet_rederivePort (always : Bool) (p : Port) : Quiet s (rederivePort always p s) :=
  (touches_rederivePort s always p).quiet (by decide)

theorem yields_linkUp (p : Port) : Yields (InputEffect s) (execLinkUp p s) := by
  unfold execLinkUp
  split
  · exact .of_quiet (Quiet.refl s)
  · exact .retarget (Quiet.refl _).settle quiet_takeReports.eases (quiet_setPort p _).eases
  · exact .retarget (Quiet.refl _).settle quiet_takeReports.eases
      ((quiet_setPort p _).trans (quiet_rederivePort true p)).eases

theorem eases_forgetAsker (p : Port) : Eases s (forgetAsker p s) := by
  unfold forgetAsker
  split
  · exact Eases.refl s
  · exact Eases.ite (eases_setPlan rfl) (Eases.refl s)

theorem yields_linkDown (p : Port) : Yields (InputEffect s) (execLinkDown p s) := by
  refine yields_ite (fun _ => ?_) (.of_quiet (Quiet.refl s))
  have cut : ∀ v : State, Quiet v (reportPort .portDetached p (rederivePort false p (emptyQueue p v))) := fun v =>
    (((touches_emptyQueue v p).quiet (by decide)).trans (quiet_rederivePort false p)).trans (quiet_setMail _)
  exact .retarget (Quiet.refl _).settle quiet_takeReports.eases
    ((cut _).after (Eases.trans (quiet_setPort p _).eases (eases_forgetAsker p)))

/-! ## The front end's commands (chapter 3) -/

theorem yields_adjusts (f : FrontEnd) {c : Prop} [Decidable c] (after : Quiet (s.setFe f) t) (ok : s.fe.Adjusted f)
    (state : f.state = s.fe.state) (feed : f.feed = s.fe.feed) :
    Yields (InputEffect s) (if c then .next t else .next s) :=
  yields_ite (fun _ => .adjusts f after ok state feed) (.of_quiet (Quiet.refl s))

theorem inputEffect_switchFeed (target : FeedState) (ht : target = .on ∨ target = .off) :
    InputEffect s (switchFeed target s) := by
  rw [switchFeed_eq]
  exact .feeds (s.fe.switched target) (quiet_raiseFeedNotice _) ⟨rfl, frontEndLaw_switched ht⟩ rfl ht

theorem InputEffect.quiet (h : InputEffect s t) (q : Quiet t u) : InputEffect s u := by
  cases h with
  | eases h => exact .eases (h.quiet q)
  | retargets r v before h after => exact .retargets r v before h (after.trans q)
  | adjusts f after ok state feed => exact .adjusts f (after.trans q) ok state feed
  | steps f after ok state feed => exact .steps f (after.trans q) ok state feed
  | wakes f after ok before state feed => exact .wakes f (after.trans q) ok before state feed
  | retunes f v after notices ok before state feed => exact .retunes f v (after.trans q) notices ok before state feed
  | feeds f after ok state feed => exact .feeds f (after.trans q) ok state feed
  | cuts f v after reports ok state feed => exact .cuts f v (after.trans q) reports ok state feed
  | writes b x e free entries after => exact .writes b x e free entries (after.trans q)
  | moves r position before ok after => exact .moves r position before ok (after.trans q)
  | subscribes r v move choice x e rate before entry ok takes after =>
    exact .subscribes r v move choice x e rate before entry ok takes (after.trans q)
  | resets fe lanes => exact .resets (by rw [q.fe, fe]) (fun l => by rw [q.lane, lanes])

theorem inputEffect_setFeed (on : Bool) : InputEffect s (setFeed on s) := by
  have same : InputEffect s s := .of_quiet (Quiet.refl s)
  have goesOn : InputEffect s (switchFeed .on s) := inputEffect_switchFeed .on (.inl rfl)
  have goesOff : InputEffect s (switchFeed .off s) := inputEffect_switchFeed .off (.inr rfl)
  unfold setFeed
  split
  exacts [goesOn, same, same, goesOff, same, goesOff, goesOn, goesOff]

theorem inputEffect_feedSet (p : Port) (body : List Byte) : InputEffect s (settle (feedSet p body s)) := by
  unfold feedSet
  split
  · exact .of_quiet (quiet_respond p _ _).settle
  · exact (inputEffect_setFeed _).quiet (quiet_respond p _ _).settle

theorem yields_wakeCompletion : Yields (InputEffect s) (execWakeCompletion s) := by
  refine yields_ite (fun h => ?_) (.of_quiet (Quiet.refl s))
  exact .wakes (s.fe.awake s.now) (Quiet.refl _) ⟨rfl, frontEndLaw_awake h.1⟩ (by rw [h.1]; decide) rfl rfl

theorem yields_retuneCompletion : Yields (InputEffect s) (execRetuneCompletion s) := by
  refine yields_ite (fun h => ?_) (.of_quiet (Quiet.refl s))
  rw [retuneCompletion_eq]
  exact .retunes s.fe.tuned _ (Quiet.refl _).settle ((touches_raiseNoticeAll _ _).quiet (by decide))
    ⟨rfl, frontEndLaw_tuned h.1⟩ (by rw [h.1]; decide) rfl rfl

theorem yields_minimumResidencyEnd : Yields (InputEffect s) (execMinimumResidencyEnd s) :=
  yields_ite
    (fun _ => .steps { s.fe with activeSince := none } (Quiet.refl _)
      ⟨rfl, fun law => { law with activeSince := by simp }⟩ rfl rfl)
    (.of_quiet (Quiet.refl s))

theorem yields_overcurrentEvent : Yields (InputEffect s) (execOvercurrentEvent s) := by
  refine yields_ite (fun _ => ?_) (.of_quiet (Quiet.refl s))
  rw [overcurrent_eq]
  refine .cuts s.cutFrontEnd _ (quiet_raiseFeedNotice _).settle (quiet_setMail _) ⟨rfl, frontEndLaw_cut⟩ rfl ?_
  unfold State.cutFrontEnd
  cases s.latches <;> simp

theorem yields_feedRestore : Yields (InputEffect s) (execFeedRestore s) := by
  refine yields_ite (fun h => ?_) (.of_quiet (Quiet.refl s))
  rw [restoreFeed_eq]
  exact .feeds (s.fe.restored s.now) (quiet_raiseFeedNotice _).settle ⟨rfl, frontEndLaw_restored h.1⟩ rfl (.inl rfl)

/-! ## Every command -/

theorem reset_lane (l : LaneId) : State.reset.lane l = Lane.fresh := Tab.get_replicate Lane.fresh l

/-- What a command can do to front end, lanes and plan entries. -/
theorem exec_inputEffect (c : Instr) : Yields (InputEffect s) (exec c s) := by
  have same : InputEffect s s := .of_quiet (Quiet.refl s)
  by_cases hq : isQuiet c = true
  · exact (exec_quiet hq).imp .of_quiet
  by_cases he : isEasing c = true
  · exact (exec_eases he).imp .eases
  cases c with
  | coldReset => exact .resets rfl reset_lane
  | warmReset =>
    rw [exec_warmReset]
    exact .resets rfl reset_lane
  | planWrite p =>
    simp only [exec, execPlanWrite]
    split
    · exact same
    · split
      exacts [same, inputEffect_planWrite p _]
  | installSet p =>
    simp only [exec, execInstallSet]
    split
    exacts [same, inputEffect_installSet p _]
  | feedSet p =>
    simp only [exec, execFeedSet]
    split
    exacts [same, inputEffect_feedSet p _]
  | subscribe p =>
    simp only [exec, execSubscribe]
    split
    exacts [same, inputEffect_subscribe p _ (quiet_markServed p)]
  | unsubscribe p =>
    simp only [exec, execUnsubscribe]
    split
    exacts [same, inputEffect_unsubscribe p _ (quiet_markServed p)]
  | portSetup p =>
    simp only [exec, execPortSetup]
    split
    exacts [same, inputEffect_portSetup p _ (quiet_markServed p)]
  | portReset p =>
    simp only [exec, execPortReset]
    split
    exacts [same, inputEffect_portReset p (quiet_markServed p)]
  | windowSet p =>
    simp only [exec, execWindowSet]
    split
    exacts [same, inputEffect_windowSet p _ (quiet_markServed p)]
  | linkUp p => exact yields_linkUp p
  | linkDown p => exact yields_linkDown p
  | holdExpiry p =>
    exact yields_ite (fun _ => .retarget (Quiet.refl _).settle quiet_takeReports.eases (eases_expireHold p)) same
  | wakeCompletion => exact yields_wakeCompletion
  | retuneCompletion => exact yields_retuneCompletion
  | idleWindowSettled =>
    exact yields_adjusts { s.fe with idleSince := none } (Quiet.refl _) ⟨rfl, fun law => { law with idleSince := by simp }⟩
      rfl rfl
  | minimumResidencyEnd => exact yields_minimumResidencyEnd
  | lastMoveStampDrop =>
    exact yields_adjusts { s.fe with lastMove := none } (Quiet.refl _) ⟨rfl, fun law => { law with }⟩ rfl rfl
  | clipEvent =>
    exact yields_adjusts s.fe.clipped (quiet_setMail _) ⟨rfl, frontEndLaw_clipped⟩ rfl rfl
  | quietTimeExpiry =>
    exact yields_adjusts s.fe.quieted (Quiet.refl _) ⟨rfl, frontEndLaw_quieted⟩ rfl rfl
  | overcurrentEvent => exact yields_overcurrentEvent
  | feedRestore => exact yields_feedRestore
  | lastRestoreStampDrop =>
    exact yields_adjusts { s.fe with lastRestore := none } (Quiet.refl _) ⟨rfl, fun law => { law with }⟩ rfl rfl
  | lingerExpiry l =>
    exact yields_ite (fun _ => .retarget (Quiet.refl _) (Eases.refl s) (eases_releaseLane l)) same
  | _ => first | exact absurd rfl hq | exact absurd rfl he

end Sys2Proof.Machine
end

section
/-! The three invariants of front end, window and lanes: Law 6 with the fit of the lanes (R40, R41), the lanes on a usable
input (R34, R66, R89), and the front end's record (R33, R50, R51). Each is kept by every way of `InputEffect`. -/

namespace Sys2Proof.Machine

variable {s t u r : State} {l k : LaneId} {x y : Lane} {f g : FrontEnd}

/-! ## What the operations do to front end and lanes, once more in one place -/

theorem retarget_eq (before : Target) (s : State) :
    retarget before s = if s.target = before then s else s.setFe (s.fe.toward s.now s.target) := by
  unfold retarget
  rw [steer_eq]

theorem retarget_fe (before : Target) (s : State) :
    (retarget before s).fe = if s.target = before then s.fe else s.fe.toward s.now s.target := by
  rw [retarget_eq]
  split <;> rfl

theorem retarget_lane (before : Target) (s : State) (l : LaneId) : (retarget before s).lane l = s.lane l := by
  rw [retarget_eq]
  split <;> rfl

theorem retarget_plan (before : Target) (s : State) : (retarget before s).plan = s.plan := by
  rw [retarget_eq]
  split <;> rfl

theorem takeLane_fe (choice : LaneChoice) (x : PlanIndex) (rate : Option Nat) (s : State) :
    (takeLane choice x rate s).fe = s.fe := (touches_takeLane s choice x rate).same .fe (by decide)

theorem takeLane_plan (choice : LaneChoice) (x : PlanIndex) (rate : Option Nat) (s : State) :
    (takeLane choice x rate s).plan = s.plan := (touches_takeLane s choice x rate).same .plan (by decide)

theorem allLeaveWait_fe (s : State) : (allLeaveWait s).fe = s.fe := (touches_allLeaveWait s).same .fe (by decide)

theorem allLeaveWait_plan (s : State) : (allLeaveWait s).plan = s.plan := (touches_allLeaveWait s).same .plan (by decide)

theorem moveWindow_fe (position : Nat) (s : State) : (moveWindow position s).fe = s.fe.moved s.now position := by
  rw [(quiet_shiftWindow_moveWindow position).fe, shiftWindow_fe]

theorem moveWindow_plan (position : Nat) (s : State) : (moveWindow position s).plan = s.plan :=
  (touches_moveWindow s position).same .plan (by decide)

theorem moveWindow_lane (position : Nat) (s : State) (k : LaneId) :
    (moveWindow position s).lane k =
      if leaves s position k = true then freed (s.lane k)
      else if restarts s position k = true then restarted (s.lane k) else s.lane k := by
  rw [(quiet_shiftWindow_moveWindow position).lane, shiftWindow_lane]

/-- The feed's release restarts the lanes in HOLDOFF(FEED) and lets every lane go on where R66 lets it (R56, R88). -/
theorem releaseFeedHoldoffs_lane (s : State) (k : LaneId) :
    (releaseFeedHoldoffs s).lane k =
      s.leftWait (if (s.lane k).state = .holdoff .feed then restarted (s.lane k) else s.lane k) := by
  unfold releaseFeedHoldoffs
  generalize hv : forEach (allLanes.filter fun l => decide ((s.lane l).state = .holdoff .feed)) restartLane s = v
  have touched : Touches [.lanes, .mail] s v := by
    subst hv; exact Touches.forEach (fun l t => touches_restartLane t l) _ s
  have lanes : v.lane k =
      if (s.lane k).state = .holdoff .feed then s.leftWait (restarted (s.lane k)) else s.lane k := by
    subst hv
    rw [forEach_lane k (g := s.restarted) (same := fun t => t.fe = s.fe ∧ t.now = s.now ∧ t.plan = s.plan) _ _ _ s
      (List.Nodup.filter _ (by decide)) ⟨rfl, rfl, rfl⟩]
    · simp only [List.mem_filter, mem_allLanes, true_and, decide_eq_true_eq, restarted_eq_leftWait]
    · intro x t h
      have e := touches_restartLane t x
      exact ⟨Eq.trans (e.same .fe (by decide)) h.1, Eq.trans (e.same .now (by decide)) h.2.1,
        Eq.trans (e.same .plan (by decide)) h.2.2⟩
    · intro x y t h
      rw [restartLane_lane]
      simp only [State.restarted, leftWait_congr s t h.1 h.2.1 h.2.2]
  rw [allLeaveWait_lane, leftWait_congr s v (touched.same .fe (by decide)) (touched.same .now (by decide))
    (touched.same .plan (by decide)), lanes]
  split
  · rw [leftWait_leftWait]
  · rfl

theorem releaseFeedHoldoffs_fe (s : State) : (releaseFeedHoldoffs s).fe = s.fe :=
  (touches_releaseFeedHoldoffs s).same .fe (by decide)

theorem releaseFeedHoldoffs_plan (s : State) : (releaseFeedHoldoffs s).plan = s.plan :=
  (touches_releaseFeedHoldoffs s).same .plan (by decide)

theorem touches_feedHoldoffs (s : State) : Touches [.lanes, .mail] s (forEach allLanes feedHoldoff s) :=
  Touches.forEach (fun l t => touches_feedHoldoff t l) _ s

/-- A cut of the feed takes every lane that is not FREE to HOLDOFF(FEED), its timers stopped (R88). -/
theorem feedHoldoffs_lane (s : State) (k : LaneId) :
    (forEach allLanes feedHoldoff s).lane k =
      if (s.lane k).state = .free ∨ (s.lane k).state = .holdoff .feed then s.lane k
      else { (s.lane k).stopTimers with state := .holdoff .feed } := by
  rw [forEach_lane k (g := fun x => if x.state = .free ∨ x.state = .holdoff .feed then x
    else { x.stopTimers with state := .holdoff .feed }) (same := fun _ => True) (fun _ _ _ => trivial)
    (fun x y t _ => feedHoldoff_lane t x y) allLanes s (by decide) trivial, if_pos (mem_allLanes k)]

/-! ## The front end's record (R33, R50, R51) -/

theorem frontEndLaw_moved {now : Time} {position : Nat} (h : FrontEndLaw f) : FrontEndLaw (f.moved now position) := by
  unfold FrontEnd.moved
  split
  · next ha =>
    exact { h with
      wakeEnd := by simp [h.wakeEnd_none, ha]
      activeSince := by simp
      idleSince := by simp [h.idleSince_none, ha]
      retuneEnd := by simp }
  · exact { h with }

theorem frontEndLaw_retarget {before : Target} (h : FrontEndLaw s.fe) : FrontEndLaw (retarget before s).fe := by
  rw [retarget_fe]
  split
  exacts [h, frontEndLaw_toward _ _ h]

theorem frontEndLaw_steer (h : FrontEndLaw s.fe) : FrontEndLaw (steer s).fe := by
  rw [steer_eq]
  exact frontEndLaw_toward _ _ h

theorem moved_fe (s : State) (move : Option Nat) :
    (s.moved move).fe = move.elim s.fe (s.fe.moved s.now) := by
  cases move with
  | none => rfl
  | some position => exact moveWindow_fe position s

theorem frontEndLaw_fresh : FrontEndLaw FrontEnd.fresh where
  wakeEnd := by decide
  activeSince := by decide
  idleSince := by decide
  retuneEnd := by decide
  attenuator := by decide
  quiet := by decide
  feedWait := by decide
  retries := by decide
  retriesWaiting := by decide

theorem frontEndLaw_inputEffect (h : FrontEndLaw s.fe) (e : InputEffect s t) : FrontEndLaw t.fe := by
  cases e with
  | eases e => rw [e.fe]; exact h
  | retargets r u before e after =>
    rw [after.fe]
    exact frontEndLaw_retarget (by rw [e.fe, before.fe]; exact h)
  | adjusts f after ok state feed => rw [after.fe]; exact ok.law h
  | steps f after ok state feed => rw [after.fe]; exact frontEndLaw_steer (ok.law h)
  | wakes f after ok before state feed => rw [after.fe, allLeaveWait_fe]; exact ok.law h
  | retunes f u after notices ok before state feed =>
    rw [after.fe]
    exact frontEndLaw_steer (by rw [notices.fe, allLeaveWait_fe]; exact ok.law h)
  | feeds f after ok state feed => rw [after.fe, releaseFeedHoldoffs_fe]; exact ok.law h
  | cuts f u after reports ok state feed =>
    rw [after.fe, (touches_feedHoldoffs u).same .fe (by decide), reports.fe]
    exact ok.law h
  | writes b x e free entries after => rw [after.fe]; exact h
  | moves r position before ok after =>
    rw [after.fe]
    exact frontEndLaw_retarget (by rw [moveWindow_fe, before.fe]; exact frontEndLaw_moved h)
  | subscribes r u move choice x e rate before entry ok takes after =>
    rw [after.fe]
    refine frontEndLaw_retarget ?_
    rw [takes.fe, takeLane_fe, moved_fe, before.fe]
    cases move with
    | none => exact h
    | some position => exact frontEndLaw_moved h
  | resets fe lanes => rw [fe]; exact frontEndLaw_fresh

/-- One idle millisecond keeps the front end's rules: the quiet time stops at 60,000 (R50). -/
theorem frontEndLaw_tick (h : FrontEndLaw s.fe) : FrontEndLaw (tick s).fe :=
  { h with quiet := by have := h.quiet; simp only [tick]; split <;> omega }

/-- A step with a command waiting is that command's, with the queue's rest waiting. -/
theorem step_eq_exec {c : Instr} {rest : List Instr} (h : s.pending = c :: rest) :
    step s = exec c { s with pending := rest } := by
  simp [step, h]

theorem step_eq_tick (h : s.pending = []) : step s = .next (tick s) := by
  simp [step, h]

/-- What every step keeps: one idle millisecond keeps it, a shorter queue keeps it, and each command's effect does. -/
theorem step_keeps {P : State → Prop} (idle : ∀ s, P s → P (tick s)) (queue : ∀ s rest, P s → P { s with pending := rest })
    (effect : ∀ s t, P s → InputEffect s t → P t) : ∀ s t, P s → step s = .next t → P t := by
  intro s t h e
  cases hp : s.pending with
  | nil =>
    rw [step_eq_tick hp] at e
    exact Host.Outcome.next.inj e ▸ idle s h
  | cons c rest =>
    rw [step_eq_exec hp] at e
    exact effect _ t (queue s rest h) ((exec_inputEffect c).next e)

/-- Settles O58: each way of `InputEffect` keeps the presence and range rules. -/
theorem stepKeepsTheFrontEndRecord : Obligations.StepKeepsTheFrontEndRecord :=
  step_keeps (P := fun s => FrontEndLaw s.fe) (fun _ h => frontEndLaw_tick h) (fun _ _ h => h)
    (fun _ _ h e => frontEndLaw_inputEffect h e)

/-! ## Law 6 and the fit of the lanes (R40, R41) -/

/-- The law follows where each lane that is not FREE carries a channel it carried before, in an unchanged window. -/
theorem WindowLaw.of_carries (h : WindowLaw s) (window : t.fe.window = s.fe.window)
    (entries : t.plan.entries = s.plan.entries)
    (lanes : ∀ l, (t.lane l).state ≠ .free → (s.lane l).state ≠ .free ∧ (t.lane l).channel = (s.lane l).channel) :
    WindowLaw t where
  position := by rw [window]; exact h.position
  fitted l busy := by
    obtain ⟨was, same⟩ := lanes l busy
    obtain ⟨e, he, fit⟩ := h.fitted l was
    refine ⟨e, ?_, by rw [window]; exact fit⟩
    have : t.entry = s.entry := by funext c; simp only [State.entry, entries]
    unfold State.laneEntry at he ⊢
    rw [same, this, he]

theorem WindowLaw.of_same (h : WindowLaw s) (window : t.fe.window = s.fe.window)
    (entries : t.plan.entries = s.plan.entries) (lanes : ∀ l, t.lane l = s.lane l) : WindowLaw t :=
  h.of_carries window entries fun l busy => ⟨lanes l ▸ busy, by rw [lanes l]⟩

theorem WindowLaw.of_eases (h : WindowLaw s) (e : Eases s t) : WindowLaw t :=
  h.of_carries (by rw [e.fe]) e.entries fun l => (e.lanes l).carries

theorem WindowLaw.of_quiet (h : WindowLaw s) (q : Quiet s t) : WindowLaw t := h.of_eases q.eases

theorem windowLaw_retarget {before : Target} (h : WindowLaw s) : WindowLaw (retarget before s) := by
  refine h.of_same ?_ (by rw [retarget_plan]) (retarget_lane before s)
  rw [retarget_fe]
  split
  exacts [rfl, FrontEnd.toward_window _ _ _]

theorem windowLaw_steer (h : WindowLaw s) : WindowLaw (steer s) := by
  rw [steer_eq]
  exact h.of_same (FrontEnd.toward_window _ _ _) rfl fun _ => rfl

theorem windowLaw_setFe {f : FrontEnd} (h : WindowLaw s) (ok : s.fe.Adjusted f) : WindowLaw (s.setFe f) :=
  h.of_same ok.window rfl fun _ => rfl

theorem windowLaw_allLeaveWait (h : WindowLaw s) : WindowLaw (allLeaveWait s) := by
  refine h.of_carries (by rw [allLeaveWait_fe]) (by rw [allLeaveWait_plan]) fun l busy => ?_
  rw [allLeaveWait_lane] at busy ⊢
  exact ⟨fun e => busy ((State.leftWait_free s _).mpr e), State.leftWait_channel s _⟩

theorem windowLaw_releaseFeedHoldoffs (h : WindowLaw s) : WindowLaw (releaseFeedHoldoffs s) := by
  refine h.of_carries (by rw [releaseFeedHoldoffs_fe]) (by rw [releaseFeedHoldoffs_plan]) fun l busy => ?_
  rw [releaseFeedHoldoffs_lane] at busy ⊢
  rw [State.leftWait_channel]
  have was := fun e => busy ((State.leftWait_free s _).mpr e)
  split at was
  · next hh => rw [if_pos hh]; exact ⟨by rw [hh]; decide, rfl⟩
  · next hh => rw [if_neg hh]; exact ⟨was, rfl⟩

theorem windowLaw_feedHoldoffs (h : WindowLaw s) : WindowLaw (forEach allLanes feedHoldoff s) := by
  have touched := touches_feedHoldoffs s
  have fe : (forEach allLanes feedHoldoff s).fe = s.fe := touched.same .fe (by decide)
  have plan : (forEach allLanes feedHoldoff s).plan = s.plan := touched.same .plan (by decide)
  refine h.of_carries (by rw [fe]) (by rw [plan]) fun l busy => ?_
  rw [feedHoldoffs_lane] at busy ⊢
  split at busy
  · next hh => rw [if_pos hh]; exact ⟨busy, rfl⟩
  · next hh => rw [if_neg hh]; exact ⟨fun e => hh (.inl e), rfl⟩

theorem moved_window (f : FrontEnd) (now : Time) (position : Nat) : (f.moved now position).window = position := by
  unfold FrontEnd.moved
  split <;> rfl

/-- A move keeps the law: a lane that it leaves busy is shared, and then fits, or fits since it was not released (R42). -/
theorem windowLaw_moveWindow {position : Nat} (h : WindowLaw s) (ok : s.MovesTo position) :
    WindowLaw (moveWindow position s) where
  position := by rw [moveWindow_fe, moved_window]; exact ok.isPosition
  fitted l busy := by
    have kept : leaves s position l = false ∧ (s.lane l).state ≠ .free ∧
        ((moveWindow position s).lane l).channel = (s.lane l).channel := by
      rw [moveWindow_lane] at busy ⊢
      cases hl : leaves s position l with
      | true => simp [hl, freed_state] at busy
      | false =>
        cases hr : restarts s position l with
        | true => simp only [restarts, Bool.and_eq_true, decide_eq_true_eq] at hr; exact ⟨rfl, hr.1.2, rfl⟩
        | false => simp only [hl, hr] at busy; exact ⟨rfl, busy, rfl⟩
    obtain ⟨stays, was, channel⟩ := kept
    obtain ⟨e, he, -⟩ := h.fitted l was
    have fit : s.laneFits position l = true := by
      by_cases shared : 0 < (s.admLane l).share
      · exact ok.shared l shared
      · simpa [leaves, was, Nat.eq_zero_of_not_pos shared] using stays
    refine ⟨e, ?_, ?_⟩
    · unfold State.laneEntry State.entry at he ⊢
      rw [channel, moveWindow_plan, he]
    · rw [moveWindow_fe, moved_window]
      unfold State.laneFits at fit
      rw [he] at fit
      exact fit

/-- The assigned lane's channel fits, and every other lane keeps its own. -/
theorem windowLaw_takeLane {choice : LaneChoice} {c : PlanIndex} {rate : Option Nat} {e : PlanEntry} (h : WindowLaw s)
    (he : s.entry c = some e) (fit : fits s.fe.window e = true) : WindowLaw (takeLane choice c rate s) where
  position := by rw [takeLane_fe]; exact h.position
  fitted k busy := by
    have entry : (takeLane choice c rate s).entry = s.entry := by
      funext y; simp only [State.entry, takeLane_plan]
    unfold State.laneEntry
    rw [takeLane_fe, entry]
    obtain ⟨l, -, lanes⟩ | ⟨z, lanes⟩ := takeLane_lane (s := s) choice c rate
    · rw [lanes] at busy ⊢
      split at busy
      · next e => subst e; rw [if_pos rfl]; exact h.fitted l busy
      · next e => rw [if_neg e]; exact h.fitted k busy
    · rw [lanes] at busy ⊢
      split at busy
      · next e' => rw [if_pos e']; exact ⟨e, he, fit⟩
      · next e' => rw [if_neg e']; exact h.fitted k busy

/-- A written entry is carried by no lane that is not FREE (R5). -/
theorem windowLaw_write {b : PlanBlock} {c : PlanIndex} {e : Option PlanEntry} (h : WindowLaw s)
    (free : s.holdingLane c = none) (entries : b.entries = Tab.put s.plan.entries c e) : WindowLaw (s.setPlan b) where
  position := h.position
  fitted l busy := by
    obtain ⟨e', he, fit⟩ := h.fitted l busy
    refine ⟨e', ?_, fit⟩
    have other := holdingLane_eq_none.mp free l busy
    unfold State.laneEntry State.entry at he ⊢
    rw [State.setPlan_lane, State.setPlan_plan, entries]
    cases hc : (s.lane l).channel with
    | none => rw [hc] at he; exact he
    | some d =>
      rw [hc] at he other
      have hd : c ≠ d := fun e => other (by rw [e])
      simp only [Option.bind_some, Tab.get_put, if_neg hd] at he ⊢
      exact he

theorem windowLaw_inputEffect (h : WindowLaw s) (e : InputEffect s t) : WindowLaw t := by
  cases e with
  | eases e => exact h.of_eases e
  | retargets r u before e after => exact (windowLaw_retarget ((h.of_eases before).of_eases e)).of_quiet after
  | adjusts f after ok state feed => exact (windowLaw_setFe h ok).of_quiet after
  | steps f after ok state feed => exact (windowLaw_steer (windowLaw_setFe h ok)).of_quiet after
  | wakes f after ok before state feed => exact (windowLaw_allLeaveWait (windowLaw_setFe h ok)).of_quiet after
  | retunes f u after notices ok before state feed =>
    exact (windowLaw_steer ((windowLaw_allLeaveWait (windowLaw_setFe h ok)).of_quiet notices)).of_quiet after
  | feeds f after ok state feed => exact (windowLaw_releaseFeedHoldoffs (windowLaw_setFe h ok)).of_quiet after
  | cuts f u after reports ok state feed =>
    exact (windowLaw_feedHoldoffs ((windowLaw_setFe h ok).of_quiet reports)).of_quiet after
  | writes b x e free entries after => exact (windowLaw_write h free entries).of_quiet after
  | moves r position before ok after =>
    exact (windowLaw_retarget (windowLaw_moveWindow (h.of_quiet before) ok)).of_quiet after
  | subscribes r u move choice x e rate before entry ok takes after =>
    have hr := h.of_quiet before
    suffices taken : WindowLaw (takeLane choice x rate (r.moved move)) from
      (windowLaw_retarget (taken.of_quiet takes)).of_quiet after
    cases move with
    | none => exact windowLaw_takeLane hr entry ok
    | some position =>
      refine windowLaw_takeLane (e := e) (windowLaw_moveWindow hr ok.1) ?_ ?_
      · unfold State.entry State.moved; rw [moveWindow_plan]; exact entry
      · unfold State.moved; rw [moveWindow_fe, moved_window]; exact ok.2
  | resets fe lanes =>
    exact ⟨by rw [fe]; unfold isPosition; decide, fun l busy => absurd (by rw [lanes]; rfl) busy⟩

/-- Settles O53: each way of `InputEffect` keeps the window's position and the fit of the lanes. -/
theorem stepKeepsTheWindow : Obligations.StepKeepsTheWindow :=
  step_keeps (fun _ h => ⟨h.position, h.fitted⟩) (fun _ _ h => ⟨h.position, h.fitted⟩)
    (fun _ _ h e => windowLaw_inputEffect h e)

/-! ## Lanes on a usable input (R34, R66, R82, R89) -/

/-- What a front end gives a lane: a usable input while it demodulates, the feed's wait while it is held for the feed, and
no usable input while it waits in WAIT with its questions answered. -/
structure Lane.Served (f : FrontEnd) (x : Lane) : Prop where
  usable : x.state.demodulates = true → f.usable = true
  held : x.state = .holdoff .feed → f.feed = .faultWait ∨ f.feed = .latched
  waits : x.ready → f.usable = false

/-- Every lane is given what it needs; with the power rule that is the input law. -/
def LanesServed (s : State) : Prop := ∀ l, (s.lane l).Served s.fe

theorem inputLaw_iff :
    InputLaw s ↔ (∀ l, (s.lane l).state ≠ .free → s.fe.powered) ∧ LanesServed s :=
  ⟨fun h => ⟨h.powered, fun l => ⟨h.usable l, h.feedFault l, fun ⟨hw, hl, hr⟩ => h.noIdleWait l hw hl hr⟩⟩,
    fun h => ⟨h.1, fun l => (h.2 l).usable, fun l => (h.2 l).held, fun l hw hl hr => (h.2 l).waits ⟨hw, hl, hr⟩⟩⟩

theorem InputLaw.served (h : InputLaw s) : LanesServed s := (inputLaw_iff.mp h).2

theorem Lane.Served.of_free (h : x.state = .free) : x.Served f where
  usable d := absurd h (LaneState.busy_of_demodulates d)
  held e := by rw [h] at e; cases e
  waits := fun ⟨w, _⟩ => by rw [h] at w; cases w

theorem Lane.Served.of_eases (h : x.Served f) (e : Lane.Eases f.usable x y) : y.Served f where
  usable d := (e.demodulates d).elim h.usable id
  held d := h.held (e.held d)
  waits w := (e.waits w).elim h.waits id

/-- A lane that demodulates only with a usable input and then leaves WAIT where it may. -/
theorem Lane.Served.leftWait (s : State) (usable : x.state.demodulates = true → s.fe.usable = true)
    (held : x.state = .holdoff .feed → s.fe.feed = .faultWait ∨ s.fe.feed = .latched) :
    (s.leftWait x).Served s.fe where
  usable d := (State.leftWait_demodulates d).elim usable id
  held d := held (State.leftWait_held d)
  waits w := State.leftWait_ready w

theorem LanesServed.of_eases (h : LanesServed s) (e : Eases s t) : LanesServed t := fun l => by
  rw [e.fe]
  exact (h l).of_eases (e.lanes l)

theorem LanesServed.of_quiet (h : LanesServed s) (q : Quiet s t) : LanesServed t := h.of_eases q.eases

/-- A usable input is an ACTIVE front end with the feed ON or OFF (R39). -/
theorem usable_congr (state : g.state = f.state) (feed : g.feed = f.feed) : g.usable = f.usable := by
  unfold FrontEnd.usable
  rw [state, feed]

theorem usable_of_state_ne (h : f.state ≠ .active) : f.usable = false := by simp [FrontEnd.usable, h]

theorem LanesServed.setFe (h : LanesServed s) (state : f.state = s.fe.state) (feed : f.feed = s.fe.feed) :
    LanesServed (s.setFe f) := fun l =>
  { usable := fun d => (usable_congr state feed).trans ((h l).usable d)
    held := fun d => by rw [State.setFe_fe, feed]; exact (h l).held d
    waits := fun w => (usable_congr state feed).trans ((h l).waits w) }

/-- The front end leaves ACTIVE on its way to a target only where every lane is FREE (R34, R38). -/
theorem LanesServed.toward (h : LanesServed s) : LanesServed (s.setFe (s.fe.toward s.now s.target)) := fun l => by
  by_cases free : (s.lane l).state = .free
  · exact .of_free free
  have active : s.target = .active := target_eq_active.mpr ⟨l, free⟩
  have same : (s.fe.toward s.now s.target).usable = s.fe.usable :=
    (s.fe.toward_usable s.now s.target).resolve_right fun e => e.2 active
  exact {
    usable := fun d => same.trans ((h l).usable d)
    held := fun d => by rw [State.setFe_fe, FrontEnd.toward_feed]; exact (h l).held d
    waits := fun w => same.trans ((h l).waits w) }

/-- Behind an event that left the target ACTIVE only with a powered front end, the front end follows its target. -/
theorem inputLaw_retarget {before : Target} (h : LanesServed s) (powered : before = .active → s.fe.powered) :
    InputLaw (retarget before s) := by
  refine inputLaw_iff.mpr ⟨fun l busy => ?_, ?_⟩
  · rw [retarget_lane] at busy
    have active : s.target = .active := target_eq_active.mpr ⟨l, busy⟩
    rw [retarget_fe]
    split
    · next e => exact powered (e ▸ active)
    · rw [active]; exact FrontEnd.toward_powered _ _
  · rw [retarget_eq]
    split
    exacts [h, h.toward]

theorem inputLaw_steer (h : LanesServed s) : InputLaw (steer s) := by
  rw [steer_eq]
  refine inputLaw_iff.mpr ⟨fun l busy => ?_, h.toward⟩
  have active : s.target = .active := target_eq_active.mpr ⟨l, busy⟩
  rw [active]
  exact FrontEnd.toward_powered _ _

theorem InputLaw.of_eases (h : InputLaw s) (e : Eases s t) : InputLaw t :=
  inputLaw_iff.mpr ⟨fun l busy => by rw [e.fe]; exact h.powered l ((e.lanes l).carries busy).1, h.served.of_eases e⟩

theorem InputLaw.of_quiet (h : InputLaw s) (q : Quiet s t) : InputLaw t := h.of_eases q.eases

/-- While some lane is busy, and so the target ACTIVE, the front end is powered. -/
theorem InputLaw.powered_of_target (h : InputLaw s) (active : s.target = .active) : s.fe.powered := by
  obtain ⟨l, busy⟩ := target_eq_active.mp active
  exact h.powered l busy

/-- The front end becomes ACTIVE: no lane demodulated before, and each that waits goes on where the feed allows it. -/
theorem lanesServed_allLeaveWait (h : LanesServed s) (before : s.fe.state ≠ .active) (feed : f.feed = s.fe.feed) :
    LanesServed (allLeaveWait (s.setFe f)) := fun l => by
  rw [allLeaveWait_lane, allLeaveWait_fe]
  refine .leftWait (s.setFe f) (fun d => ?_) fun d => ?_
  · exact absurd ((h l).usable d) (by rw [usable_of_state_ne before]; decide)
  · rw [State.setFe_fe, feed]; exact (h l).held d

/-- The feed enters ON or OFF: a lane that demodulates keeps its input, and the lanes held for the feed restart. -/
theorem lanesServed_releaseFeedHoldoffs (h : LanesServed s) (state : f.state = s.fe.state)
    (feed : f.feed = .on ∨ f.feed = .off) : LanesServed (releaseFeedHoldoffs (s.setFe f)) := fun l => by
  rw [releaseFeedHoldoffs_lane, releaseFeedHoldoffs_fe]
  have usable : s.fe.usable = true → f.usable = true := by
    unfold FrontEnd.usable
    rw [state]
    rcases feed with e | e <;> simp +contextual [e]
  split
  · exact .leftWait (s.setFe f) (fun d => by cases d) (fun d => by cases d)
  · next free => exact .leftWait (s.setFe f) (fun d => usable ((h l).usable d)) (fun d => absurd d free)

/-- The feed is cut: every lane that is not FREE is held for it. -/
theorem lanesServed_feedHoldoffs (feed : s.fe.feed = .faultWait ∨ s.fe.feed = .latched) :
    LanesServed (forEach allLanes feedHoldoff s) := fun l => by
  have held : ∀ y : Lane, y.state = .holdoff .feed → y.Served s.fe := fun y hy =>
    { usable := fun d => by rw [hy] at d; cases d
      held := fun _ => feed
      waits := fun w => by have := w.1; rw [hy] at this; cases this }
  rw [feedHoldoffs_lane, (touches_feedHoldoffs s).same .fe (by decide)]
  split
  · next e => exact e.elim .of_free (held _)
  · exact held _ rfl

theorem moved_powered (f : FrontEnd) (now : Time) (position : Nat) (h : f.powered) : (f.moved now position).powered := by
  unfold FrontEnd.moved
  split
  · exact ⟨by simp, by simp⟩
  · exact h

/-- A move of the window: where a retune starts every busy lane restarts in WAIT, and the input is not usable (R43). -/
theorem lanesServed_moveWindow {position : Nat} (h : LanesServed s) : LanesServed (moveWindow position s) := fun l => by
  rw [moveWindow_fe, moveWindow_lane]
  have freedServed : (freed (s.lane l)).Served (s.fe.moved s.now position) := .of_free rfl
  by_cases ha : s.fe.state = .active
  · have unusable : (s.fe.moved s.now position).usable = false := usable_of_state_ne (by simp [FrontEnd.moved, ha])
    split
    · exact freedServed
    · next stays =>
      split
      · exact ⟨fun d => (by cases d), fun d => (by cases d), fun _ => unusable⟩
      · next idle =>
        refine .of_free (Classical.not_not.mp fun busy => idle ?_)
        simp [restarts, ha, busy, stays]
  · have still : s.fe.moved s.now position = { s.fe with window := position, lastMove := some s.now } := if_neg ha
    split
    · exact freedServed
    · rw [if_neg (by simp [restarts, ha]), still]
      exact ⟨(h l).usable, (h l).held, (h l).waits⟩

theorem lanesServed_takeLane {choice : LaneChoice} {c : PlanIndex} {rate : Option Nat} (h : LanesServed s) :
    LanesServed (takeLane choice c rate s) := fun k => by
  rw [takeLane_fe]
  obtain ⟨l, -, lanes⟩ | ⟨z, lanes⟩ := takeLane_lane (s := s) choice c rate
  · rw [lanes]
    split
    · exact ⟨(h l).usable, (h l).held, (h l).waits⟩
    · exact h k
  · rw [lanes]
    split
    · exact ⟨fun d => (by cases d), fun d => (by cases d), fun ⟨_, answered, _⟩ => by cases answered⟩
    · exact h k

theorem inputLaw_inputEffect (h : InputLaw s) (e : InputEffect s t) : InputLaw t := by
  cases e with
  | eases e => exact h.of_eases e
  | retargets r u before e after =>
    have hr := h.of_eases before
    exact (inputLaw_retarget (hr.served.of_eases e) fun active => by
      rw [e.fe]; exact hr.powered_of_target active).of_quiet after
  | adjusts f after ok state feed =>
    refine InputLaw.of_quiet (inputLaw_iff.mpr ⟨fun l busy => ?_, h.served.setFe state feed⟩) after
    exact ⟨fun e => (h.powered l busy).1 (state ▸ e), fun e => (h.powered l busy).2 (state ▸ e)⟩
  | steps f after ok state feed => exact (inputLaw_steer (h.served.setFe state feed)).of_quiet after
  | wakes f after ok before state feed =>
    refine InputLaw.of_quiet (inputLaw_iff.mpr ⟨fun l _ => ?_, lanesServed_allLeaveWait h.served before feed⟩) after
    rw [allLeaveWait_fe, State.setFe_fe]
    exact ⟨by rw [state]; decide, by rw [state]; decide⟩
  | retunes f u after notices ok before state feed =>
    exact (inputLaw_steer ((lanesServed_allLeaveWait h.served before feed).of_quiet notices)).of_quiet after
  | feeds f after ok state feed =>
    refine InputLaw.of_quiet (inputLaw_iff.mpr
      ⟨fun l busy => ?_, lanesServed_releaseFeedHoldoffs h.served state feed⟩) after
    rw [releaseFeedHoldoffs_lane] at busy
    rw [releaseFeedHoldoffs_fe, State.setFe_fe]
    have was : (s.lane l).state ≠ .free := fun e => busy ((State.leftWait_free _ _).mpr (by simp [e]))
    exact ⟨fun e => (h.powered l was).1 (state ▸ e), fun e => (h.powered l was).2 (state ▸ e)⟩
  | cuts f u after reports ok state feed =>
    have fe : u.fe = f := reports.fe
    refine InputLaw.of_quiet (inputLaw_iff.mpr
      ⟨fun l busy => ?_, lanesServed_feedHoldoffs (by rw [fe]; exact feed)⟩) after
    rw [feedHoldoffs_lane, reports.lane, State.setFe_lane] at busy
    rw [(touches_feedHoldoffs u).same .fe (by decide), fe]
    have was : (s.lane l).state ≠ .free := fun e => busy (by simp [e])
    exact ⟨fun e => (h.powered l was).1 (state ▸ e), fun e => (h.powered l was).2 (state ▸ e)⟩
  | writes b x e free entries after =>
    have written : InputLaw (s.setPlan b) := ⟨h.powered, h.usable, h.feedFault, h.noIdleWait⟩
    exact written.of_quiet after
  | moves r position before ok after =>
    have hr := h.of_quiet before
    exact (inputLaw_retarget (lanesServed_moveWindow hr.served) fun active => by
      rw [moveWindow_fe]; exact moved_powered _ _ _ (hr.powered_of_target active)).of_quiet after
  | subscribes r u move choice x e rate before entry ok takes after =>
    have hr := h.of_quiet before
    have moved : LanesServed (r.moved move) := by
      cases move with
      | none => exact hr.served
      | some position => exact lanesServed_moveWindow hr.served
    refine (inputLaw_retarget ((lanesServed_takeLane moved).of_quiet takes) fun active => ?_).of_quiet after
    rw [takes.fe, takeLane_fe, moved_fe]
    cases move with
    | none => exact hr.powered_of_target active
    | some position => exact moved_powered _ _ _ (hr.powered_of_target active)
  | resets fe lanes =>
    exact inputLaw_iff.mpr ⟨fun l busy => absurd (by rw [lanes]; rfl) busy, fun l => .of_free (by rw [lanes]; rfl)⟩

/-- Settles O57: each way of `InputEffect` keeps the front end powered and every lane served. -/
theorem stepKeepsLanesOnAUsableInput : Obligations.StepKeepsLanesOnAUsableInput :=
  step_keeps (fun _ h => ⟨h.powered, h.usable, h.feedFault, h.noIdleWait⟩)
    (fun _ _ h => ⟨h.powered, h.usable, h.feedFault, h.noIdleWait⟩) (fun _ _ h e => inputLaw_inputEffect h e)

end Sys2Proof.Machine
end

section
/-! What a command of the front end leaves whole: the parts it does not touch, the ports after notices and an answer (R173,
R175), and what the lanes tell the memo store and the admission controller in one event (R61, R83, R85). -/

namespace Sys2Proof.Machine

variable {s t u : State} {l k : LaneId} {p q : Port}

/-! ## Two states, part by part -/

theorem State.ext_same (h : ∀ part, Same s t part) : t = s := by
  have now : t.now = s.now := h .now
  have plan : t.plan = s.plan := h .plan
  have fe : t.fe = s.fe := h .fe
  have lanes : t.lanes = s.lanes := h .lanes
  have store : t.store = s.store := h .store
  have adm : t.adm = s.adm := h .adm
  have pool : t.pool = s.pool := h .pool
  have ports : t.ports = s.ports := h .ports
  have log : t.log = s.log := h .log
  have mail : t.mail = s.mail := h .mail
  have picks : t.slotPicks = s.slotPicks := h .slotPicks
  have pending : t.pending = s.pending := h .pending
  cases s
  cases t
  simp_all

/-- The parts that the front end's commands and an admission touch. -/
theorem Touches.eq_of_event (h : Touches [.fe, .lanes, .adm, .ports, .mail] s t) :
    t = { s with fe := t.fe, lanes := t.lanes, adm := t.adm, ports := t.ports, mail := t.mail } := by
  refine State.ext_same fun part => ?_
  have same := h part
  cases part with
  | fe | lanes | adm | ports | mail => rfl
  | _ => exact same (by decide)

theorem Touches.eq_lanes (h : Touches [.lanes] s t) : t = { s with lanes := t.lanes } := by
  refine State.ext_same fun part => ?_
  have same := h part
  cases part with
  | lanes => rfl
  | _ => exact same (by decide)

theorem Touches.eq_of_feed (h : Touches [.fe, .lanes, .ports, .mail] s t) :
    t = { s with fe := t.fe, lanes := t.lanes, ports := t.ports, mail := t.mail } := by
  refine State.ext_same fun part => ?_
  have same := h part
  cases part with
  | fe | lanes | ports | mail => rfl
  | _ => exact same (by decide)

/-! ## The ports after notices and an answer (R170, R173, R175) -/

/-- A port's record after a notice is raised for it and before its downlink is looked at (R173). -/
def PortRec.raised (r : PortRec) (n : Notice) : PortRec :=
  if r.link = .attached then { r with notices := enqueueNotice n r.notices } else r

theorem raiseNotice_port (n : Notice) : (raiseNotice n p s).port q = if p = q then (s.port p).raised n else s.port q := by
  rw [raiseNotice_eq, State.setPort_port]
  rfl

theorem raiseNoticeAll_port (n : Notice) : (raiseNoticeAll n s).port q = (s.port q).raised n := by
  simp only [raiseNoticeAll, forEach, Port.all, List.foldl]
  cases q <;> simp [raiseNotice_port]

theorem raised_link (r : PortRec) (n : Notice) : (r.raised n).link = r.link := by
  unfold PortRec.raised; split <;> rfl

theorem raised_of_attached {r : PortRec} (n : Notice) (h : r.link = .attached) :
    r.raised n = { r with notices := enqueueNotice n r.notices } := if_pos h

/-- An answer in a port's record, before its downlink is looked at (R170). -/
def PortRec.responded (r : PortRec) (status : Status) (fields : List Byte) : PortRec :=
  match r.requests with
  | [] => r
  | x :: _ =>
    { r with responses := r.responses ++
        [{ busy := false, kind := responseKind x.kind, tag := x.tag, body := status.code :: fields }] }

theorem respond_port (status : Status) (fields : List Byte) :
    (respond p status fields s).port q = if p = q then (s.port p).responded status fields else s.port q := by
  unfold PortRec.responded
  cases hr : (s.port p).requests with
  | nil =>
    have e : respond p status fields s = s := by simp [respond, hr]
    rw [e]
    split
    · next h => rw [h]
    · rfl
  | cons x rest => simp [respond_eq s p status fields x rest hr, hr]

/-- A port on whose idle downlink nothing waits (R175). -/
def PortRec.Rests (r : PortRec) (queue : List Entry) : Prop :=
  r.link = .attached → r.downlink = .idle → r.responses = [] ∧ r.notices = [] ∧ queue = []

theorem State.Settled.rests (h : s.Settled) (p : Port) : (s.port p).Rests (s.queue p) := h p

/-- A notice that is raised for a port at rest goes where R173 and R175 say. -/
theorem arbitrated_raised {r : PortRec} {queue : List Entry} (h : r.Rests queue) (n : Notice) :
    (r.raised n).arbitrated queue = r.noticed n := by
  unfold PortRec.raised PortRec.noticed
  by_cases hl : r.link = .attached
  · rw [if_pos hl, if_neg (not_not.mpr hl)]
    by_cases hd : r.downlink = .idle
    · obtain ⟨hr, hn, -⟩ := h hl hd
      simp [PortRec.arbitrated, hl, hd, hr, hn, enqueueNotice]
    · simp [PortRec.arbitrated, hd]
  · rw [if_neg hl, if_pos hl]
    simp [PortRec.arbitrated, hl]

/-- An answer beside notices: an idle downlink sends the answer first (R175). -/
theorem arbitrated_responded {r : PortRec} {queue : List Entry} (h : r.Rests queue) (hl : r.link = .attached)
    (asked : r.requests ≠ []) (status : Status) (fields : List Byte) (notices : List Notice) :
    ({ r.responded status fields with notices } : PortRec).arbitrated queue =
      { r.answered status fields with notices } := by
  unfold PortRec.responded PortRec.answered
  cases hr : r.requests with
  | nil => exact absurd hr asked
  | cons x rest =>
    by_cases hd : r.downlink = .idle
    · obtain ⟨hn, -, -⟩ := h hl hd
      simp [PortRec.arbitrated, hl, hd, hn]
    · simp [PortRec.arbitrated, hd]

/-- An answer behind one notice (R175). -/
theorem arbitrated_answeredNoticed {r : PortRec} {queue : List Entry} (h : r.Rests queue) (hl : r.link = .attached)
    (asked : r.requests ≠ []) (status : Status) (fields : List Byte) (n : Notice) :
    ((r.raised n).responded status fields).arbitrated queue = r.answeredNoticed status fields n := by
  have swap : (r.raised n).responded status fields =
      { r.responded status fields with notices := enqueueNotice n r.notices } := by
    rw [raised_of_attached n hl]
    unfold PortRec.responded
    cases hr : r.requests with
    | nil => exact absurd hr asked
    | cons x rest => rfl
  rw [swap, arbitrated_responded h hl asked]
  rfl

theorem answered_requests_ne {body : List Byte} {kind : ReqKind} (h : s.headBody p kind = some body) :
    (s.port p).requests ≠ [] := by
  intro e
  simp [State.headBody, State.headRequest, e] at h

/-- After a command that raises one notice for every port and nothing else on the ports. -/
theorem settle_port_noticed {n : Notice} (h : s.Settled) (ports : ∀ q, u.port q = (s.port q).raised n)
    (pool : u.pool = s.pool) (q : Port) : (settle u).port q = (s.port q).noticed n := by
  rw [settle_port, ports]
  have : u.queue q = s.queue q := by simp only [State.queue, pool]
  rw [this, arbitrated_raised (h.rests q)]

/-! ## What the lanes tell in one event -/

/-- The mail after a lane has made reports and sent messages to the store. -/
def Mail.spoken (m : Mail) (l : LaneId) (reports : List AdmMsg → List AdmMsg) (tells : List StoreMsg) : Mail :=
  { m with toAdm := reports m.toAdm, toStore := Tab.put m.toStore l (m.toStore.get l ++ tells) }

/-- An operation taken over lanes in turn, each of which speaks by its own record: the reports in that order, and each
lane's messages to the store. -/
theorem forEach_spoken {f : LaneId → State → State} {reports : LaneId → Lane → List AdmMsg → List AdmMsg}
    {tells : Lane → List StoreMsg} (own : ∀ l k t, l ≠ k → (f l t).lane k = t.lane k)
    (one : ∀ l t, (f l t).mail = t.mail.spoken l (reports l (t.lane l)) (tells (t.lane l))) :
    ∀ (items : List LaneId) (s : State), items.Nodup →
      (forEach items f s).mail = { s.mail with
        toAdm := items.foldl (fun a l => reports l (s.lane l) a) s.mail.toAdm
        toStore := (forEach items f s).mail.toStore } ∧
      ∀ k, (forEach items f s).mail.toStore.get k =
        s.mail.toStore.get k ++ if k ∈ items then tells (s.lane k) else [] := by
  intro items
  induction items with
  | nil => intro s _; exact ⟨rfl, fun k => by simp⟩
  | cons x rest ih =>
    intro s distinct
    obtain ⟨hx, hr⟩ := List.nodup_cons.mp distinct
    obtain ⟨mail, store⟩ := ih (f x s) hr
    have lanes : ∀ y ∈ rest, (f x s).lane y = s.lane y := fun y hy => own x y s fun e => hx (e ▸ hy)
    rw [forEach_cons]
    constructor
    · rw [mail, one, List.foldl_cons]
      have fold : ∀ a, rest.foldl (fun a l => reports l ((f x s).lane l) a) a =
          rest.foldl (fun a l => reports l (s.lane l) a) a := fun a =>
        List.foldl_ext _ _ a fun b y hy => by rw [lanes y hy]
      rw [fold]
      rfl
    · intro k
      rw [store, one]
      simp only [Mail.spoken, Tab.get_put, List.mem_cons]
      by_cases e : x = k
      · subst e; simp [hx]
      · have e' : ¬ k = x := fun h => e h.symm
        by_cases hk : k ∈ rest
        · rw [lanes k hk]; simp [e, hk]
        · simp [e, e', hk]

theorem foldl_append_filter {α β : Type} (c : α → Bool) (g : α → β) (items : List α) (start : List β) :
    items.foldl (fun a x => a ++ if c x = true then [g x] else []) start = start ++ (items.filter c).map g := by
  induction items generalizing start with
  | nil => simp
  | cons x rest ih =>
    rw [List.foldl_cons, ih, List.filter_cons]
    split <;> simp

@[simp] theorem LaneState.kind_acquire (st : Stage) : (LaneState.acquire st).kind = .acquire := rfl
@[simp] theorem LaneState.kind_holdoff (reason : HoldoffReason) : (LaneState.holdoff reason).kind = .holdoff := rfl
@[simp] theorem LaneState.kind_free : LaneState.free.kind = .free := rfl

/-- What a lane's restart asks of the store, as the model says it. -/
theorem askRestart_mail (l : LaneId) (s : State) :
    (askRestart l s).mail = { s.mail with
      toStore := Tab.put s.mail.toStore l (s.mail.toStore.get l ++ restartAsked (s.lane l)) } := by
  unfold askRestart restartAsked
  cases hm : (s.lane l).memo with
  | some m => simp [hm]
  | none =>
    cases hc : (s.lane l).channel with
    | none => simp [hm, hc]
    | some c => cases hp : (s.lane l).lookupPending <;> simp [hm, hc, hp, State.modLane]

/-- A restart reports the lane's return to ACQUIRE, unless it was there already, and asks the store (R83, R101). -/
theorem restartLane_mail (l : LaneId) (s : State) :
    (restartLane l s).mail = s.mail.spoken l
      (fun a => a ++ if ((s.lane l).state.kind ≠ .acquire : Bool) then [AdmMsg.state l .acquire] else [])
      (restartAsked (s.lane l)) := by
  unfold restartLane
  simp only
  generalize hv : s.modLane l _ = v
  have mail : v.mail = s.mail := by subst hv; rfl
  have asked : restartAsked (v.lane l) = restartAsked (s.lane l) := by
    subst hv; simp [State.modLane, restartAsked, Lane.stopTimers]
  have state : (askRestart l v).lane l = { v.lane l with
      restartsPending := (v.lane l).restartsPending + (v.lane l).asks.toNat } := by
    rw [askRestart_lane, if_pos rfl]
  have waits : (v.lane l).state = .acquire .wait := by subst hv; simp [State.modLane]
  rw [leaveWait_eq, State.setLane_mail]
  by_cases h : (s.lane l).state.kind = .acquire
  · simp [h, askRestart_mail, mail, asked, Mail.spoken]
  · simp [h, reportState, state, waits, askRestart_mail, mail, asked, Mail.spoken]

/-- What a lane's own cut reports (R88): a lane in ACQUIRE, LOCKED or COAST its change. -/
theorem feedHoldoff_mail (l : LaneId) (s : State) :
    (feedHoldoff l s).mail = s.mail.spoken l
      (fun a => a ++ if ((s.lane l).state.kind ∈ [LaneKind.acquire, .locked, .coast] : Bool) then
        [AdmMsg.state l .holdoff] else []) [] := by
  unfold feedHoldoff
  simp only
  split
  · next h => simp [h, Mail.spoken]
  · next h => simp [h, Mail.spoken]
  · next h => simp [h, Mail.spoken, State.modLane]
  · next free feed other =>
    have speaks : (s.lane l).state.kind ∈ [LaneKind.acquire, .locked, .coast] := by
      cases hs : (s.lane l).state with
      | free => exact absurd hs free
      | holdoff reason => exact absurd hs (other reason)
      | acquire _ => simp
      | locked => simp [LaneState.kind]
      | coast => simp [LaneState.kind]
    rw [decide_eq_true speaks]
    simp [Mail.spoken, reportState, State.modLane]

end Sys2Proof.Machine
end

section
/-! The front end's and the feed's commands (chapter 3), each with its next state. -/

namespace Sys2Proof.Machine

variable {s t u : State} {l k : LaneId} {p q : Port}

/-! ## The target level (R34) -/

theorem Port.mem_all (p : Port) : p ∈ Port.all := by cases p <;> decide

theorem demandsIdle_iff : s.demandsIdle p = true ↔ (s.port p).link = .attached ∧ (s.admPort p).standby = .idle := by
  simp [State.demandsIdle]

/-- With every lane FREE the target is IDLE or OFF, as the policy reads the ports' demands. -/
theorem target_of_free (h : ∀ l, (s.lane l).state = .free) :
    s.target =
      match s.plan.settings.policy with
      | .shallow => if Port.all.any s.demandsIdle then .idle else .off
      | .deep => if Port.all.all s.demandsIdle then .idle else .off := by
  have idle : ¬ allLanes.any s.laneBusy = true := fun e => by
    obtain ⟨l, -, busy⟩ := List.any_eq_true.mp e
    exact laneBusy_iff.mp busy (h l)
  exact if_neg idle

/-- Settles O12: the two policies ask whether some port, or every port, demands IDLE. -/
theorem targetLevelFollowsLanesAndDemands : Obligations.TargetLevelFollowsLanesAndDemands := by
  refine fun s => ⟨target_eq_active, fun free policy => ?_, fun free policy => ?_⟩
  · rw [target_of_free free, policy]
    have some_port : Port.all.any s.demandsIdle = true ↔
        ∃ p, (s.port p).link = .attached ∧ (s.admPort p).standby = .idle := by
      simp [List.any_eq_true, Port.mem_all, demandsIdle_iff]
    rw [← some_port]
    simp
  · rw [target_of_free free, policy]
    have every_port : Port.all.all s.demandsIdle = true ↔
        ∀ p, (s.port p).link = .attached ∧ (s.admPort p).standby = .idle := by
      simp [List.all_eq_true, Port.mem_all, demandsIdle_iff]
    rw [← every_port]
    simp

/-! ## Completions (R37, R43) -/

theorem toward_retuning {f : FrontEnd} (now : Time) (level : Target) (h : f.state = .retuning) :
    f.toward now level = f := by
  unfold FrontEnd.toward
  rw [h]

theorem toward_active {f : FrontEnd} (now : Time) (level : Target) (h : f.state = .active) :
    f.toward now level = steppedDown f now level := by
  unfold FrontEnd.toward
  rw [h]

theorem timerDue_of_reached {t0 : Time} {timer : Option Time} (h : timer = some t0)
    (reached : (s.now - t0).toNat < 2147483648) : timerDue s.now timer = true := by
  rw [h]
  exact decide_eq_true reached

theorem PerPort.get_each {α : Type} (v : PerPort α) (f : α → α) (p : Port) : (v.each f).get p = f (v.get p) := by
  cases p <;> rfl

theorem exec_wakeCompletion {t0 : Time} (hs : s.fe.state = .waking) (he : s.fe.wakeEnd = some t0)
    (reached : (s.now - t0).toNat < 2147483648) :
    exec .wakeCompletion s = .next (allLeaveWait (s.setFe (s.fe.awake s.now))) :=
  if_pos ⟨hs, timerDue_of_reached he reached⟩

theorem exec_retuneCompletion {t0 : Time} (hs : s.fe.state = .retuning) (he : s.fe.retuneEnd = some t0)
    (reached : (s.now - t0).toNat < 2147483648) :
    exec .retuneCompletion s = .next (settle (retuneCompletion s)) :=
  if_pos ⟨hs, timerDue_of_reached he reached⟩

/-- Leaving WAIT makes no lane FREE and none busy, so that it leaves the target as it was. -/
theorem allLeaveWait_target (s : State) : (allLeaveWait s).target = s.target := by
  refine target_congr (fun l => ?_) (allLeaveWait_plan s) fun p => ?_
  · unfold State.laneBusy
    rw [allLeaveWait_lane, decide_eq_decide]
    exact not_congr (State.leftWait_free s _)
  · have ports : (allLeaveWait s).ports = s.ports := (touches_allLeaveWait s).same .ports (by decide)
    have adm : (allLeaveWait s).adm = s.adm := (touches_allLeaveWait s).same .adm (by decide)
    unfold State.demandsIdle State.port State.admPort
    rw [ports, adm]

theorem raiseNoticeAll_target (n : Notice) (s : State) : (raiseNoticeAll n s).target = s.target := by
  have touched := touches_raiseNoticeAll s n
  have lanes : (raiseNoticeAll n s).lanes = s.lanes := touched.same .lanes (by decide)
  have adm : (raiseNoticeAll n s).adm = s.adm := touched.same .adm (by decide)
  refine target_congr (fun l => ?_) (touched.same .plan (by decide)) fun p => ?_
  · unfold State.laneBusy State.lane
    rw [lanes]
  · unfold State.demandsIdle State.admPort
    rw [raiseNoticeAll_port, raised_link, adm]

/-- What a retune completion leaves before the downlinks are looked at: the front end steps down from ACTIVE where the
target has fallen (R38, R43, R49). -/
theorem retuneCompletion_noticed (s : State) :
    retuneCompletion s =
      (raiseNoticeAll (.window s.fe.window .active .retuneCompletion) (allLeaveWait (s.setFe s.fe.tuned))).setFe
        (steppedDown s.fe.tuned s.now s.target) := by
  rw [retuneCompletion_eq, steer_eq, raiseNoticeAll_target, allLeaveWait_target]
  have fe (n : Notice) : (raiseNoticeAll n (allLeaveWait (s.setFe s.fe.tuned))).fe = s.fe.tuned :=
    Eq.trans ((touches_raiseNoticeAll _ n).same .fe (by decide)) (allLeaveWait_fe _)
  have now (n : Notice) : (raiseNoticeAll n (allLeaveWait (s.setFe s.fe.tuned))).now = s.now :=
    Eq.trans ((touches_raiseNoticeAll _ n).same .now (by decide)) ((touches_allLeaveWait _).same .now (by decide))
  rw [fe, now, toward_active _ _ rfl, allLeaveWait_fe]
  rfl

theorem touches_retuneCompletion (s : State) : Touches [.fe, .lanes, .ports] s (retuneCompletion s) := by
  rw [retuneCompletion_noticed]
  exact ((((touches_setFe s _).mono (by decide)).trans ((touches_allLeaveWait _).mono (by decide))).trans
    ((touches_raiseNoticeAll _ _).mono (by decide))).trans ((touches_setFe _ _).mono (by decide))

theorem retuneCompletion_lane (s : State) (l : LaneId) :
    (retuneCompletion s).lane l = (s.setFe s.fe.tuned).leftWait (s.lane l) := by
  rw [retuneCompletion_noticed, State.setFe_lane, (Touches.quiet (touches_raiseNoticeAll _ _) (by decide)).lane,
    allLeaveWait_lane]
  rfl

theorem retuneCompletion_port (s : State) (q : Port) :
    (retuneCompletion s).port q = (s.port q).raised (.window s.fe.window .active .retuneCompletion) := by
  rw [retuneCompletion_noticed, State.setFe_port, raiseNoticeAll_port, (touches_allLeaveWait _).eq_lanes]
  rfl

theorem Touches.eq_fe_lanes_ports (h : Touches [.fe, .lanes, .ports] s t) :
    t = { s with fe := t.fe, lanes := t.lanes, ports := t.ports } := by
  refine State.ext_same fun part => ?_
  have same := h part
  cases part with
  | fe | lanes | ports => rfl
  | _ => exact same (by decide)

/-- Settles O13: both completions let every lane leave WAIT, and the retune's then gives its notice and steps down. -/
theorem completionsMakeTheInputUsable : Obligations.CompletionsMakeTheInputUsable := by
  refine ⟨fun t0 s hs he reached => ?_, fun t0 s settled hs he reached => ?_⟩
  · refine ⟨_, (exec_wakeCompletion hs he reached).trans
      (congrArg _ (touches_allLeaveWait (s.setFe (s.fe.awake s.now))).eq_lanes), fun l => ?_⟩
    exact (allLeaveWait_lane _ l).trans (leftWait_eq_sensing _ _)
  · have touched := touches_retuneCompletion s
    have fe : (settle (retuneCompletion s)).fe = steppedDown s.fe.tuned s.now s.target := by
      rw [settle_fe, retuneCompletion_noticed, State.setFe_fe]
    have ports : (settle (retuneCompletion s)).ports =
        s.ports.each (fun r => r.noticed (.window s.fe.window .active .retuneCompletion)) :=
      PerPort.ext_get fun q => by
        rw [PerPort.get_each]
        exact settle_port_noticed settled (retuneCompletion_port s) (touched.same .pool (by decide)) q
    have whole := (touched.trans ((touches_settle _).mono (by decide))).eq_fe_lanes_ports
    rw [fe, ports] at whole
    refine ⟨_, (exec_retuneCompletion hs he reached).trans (congrArg _ whole), fun l => ?_⟩
    rw [settle_lanes]
    exact (retuneCompletion_lane s l).trans (leftWait_eq_sensing _ _)

/-! ## Stamps (R33, R38, R40, R53) -/

theorem stampAge_of_old {t0 : Time} {stamp : Option Time} {ms : Nat} (h : stamp = some t0)
    (old : ms ≤ (s.now - t0).toNat) : stampAge s.now ms stamp = true := by
  rw [h]
  exact decide_eq_true old

/-- The end of the minimum residency drops the stamp, and the front end takes the move that waited for it (R38). -/
theorem exec_minimumResidencyEnd {t0 : Time} (hs : s.fe.activeSince = some t0) (old : 2000 ≤ (s.now - t0).toNat) :
    exec .minimumResidencyEnd s =
      .next (s.setFe (({ s.fe with activeSince := none } : FrontEnd).toward s.now s.target)) := by
  refine (if_pos (stampAge_of_old hs old)).trans ?_
  rw [steer_eq]
  rfl

/-- Settles O14: a stamp of its age is dropped, and the step down that waited for the residency's end is taken. -/
theorem stampsAreDroppedAtTheirAge : Obligations.StampsAreDroppedAtTheirAge := by
  refine ⟨fun t0 s => ⟨fun hs hi old => if_pos ⟨hs, stampAge_of_old hi old⟩, fun hm old => if_pos (stampAge_of_old hm old),
    fun hr old => if_pos (stampAge_of_old hr old)⟩, fun t0 s hs old => ?_⟩
  rw [exec_minimumResidencyEnd hs old]
  refine ⟨fun h => ?_, fun state target => ?_, fun state target => ?_⟩
  · rcases h with state | ⟨state, target⟩
    · rw [toward_retuning s.now s.target (f := { s.fe with activeSince := none }) state]; rfl
    · rw [toward_active s.now s.target (f := { s.fe with activeSince := none }) state, target]; rfl
  · rw [toward_active s.now s.target (f := { s.fe with activeSince := none }) state, target, steppedDown_idle]; rfl
  · rw [toward_active s.now s.target (f := { s.fe with activeSince := none }) state, target, steppedDown_off]; rfl

/-! ## The attenuator (R50) -/

theorem exec_clipEvent (hs : s.fe.state = .active ∨ s.fe.state = .retuning) (mute : s.fe.clipMute = 0) :
    exec .clipEvent s = .next (reportDevice .feClip (s.setFe s.fe.clipped)) :=
  if_pos ⟨hs, mute⟩

theorem exec_quietTimeExpiry (h : 60000 ≤ s.fe.quiet) : exec .quietTimeExpiry s = .next (s.setFe s.fe.quieted) :=
  if_pos h

/-- Settles O15: the model's clamps at 30 and 0 are the statement's. -/
theorem attenuatorStepsOnClipAndQuiet : Obligations.AttenuatorStepsOnClipAndQuiet := by
  refine fun s => ⟨fun hs mute _ => ?_, fun h => ?_⟩
  · have up : min (s.fe.attenuator + 2) 30 = if s.fe.attenuator + 2 ≤ 30 then s.fe.attenuator + 2 else 30 :=
      Nat.min_def ..
    rw [exec_clipEvent hs mute, FrontEnd.clipped, up]
    rfl
  · have down : s.fe.attenuator - 2 = if 2 ≤ s.fe.attenuator then s.fe.attenuator - 2 else 0 := by
      split <;> omega
    rw [exec_quietTimeExpiry h, FrontEnd.quieted, ← down]
    rfl

/-! ## The feed (R51 to R57) -/

/-- The feed's release, as the statements speak of it (R56, R66, R83, R88). -/
theorem feedReleases_releaseFeedHoldoffs (f : FrontEnd) (s : State) :
    FeedReleases s (releaseFeedHoldoffs (s.setFe f)) := by
  let held := fun l => decide ((s.lane l).state = .holdoff .feed)
  have distinct : (allLanes.filter held).Nodup := List.Nodup.filter _ (by decide)
  have spoken := forEach_spoken (f := restartLane)
    (reports := fun l x a => a ++ if (x.state.kind ≠ .acquire : Bool) then [AdmMsg.state l .acquire] else [])
    (tells := restartAsked) (fun l k t e => by rw [restartLane_lane, if_neg e]) (fun l t => restartLane_mail l t)
    (allLanes.filter held) (s.setFe f) distinct
  have mail : (releaseFeedHoldoffs (s.setFe f)).mail =
      (forEach (allLanes.filter held) restartLane (s.setFe f)).mail :=
    (touches_allLeaveWait _).same .mail (by decide)
  obtain ⟨adm, store⟩ := spoken
  refine ⟨fun l => ?_, ?_, fun l => ?_⟩
  · rw [releaseFeedHoldoffs_lane, leftWait_eq_sensing]
    have feFixed : (releaseFeedHoldoffs (s.setFe f)).fe = (s.setFe f).fe := releaseFeedHoldoffs_fe _
    have same : (releaseFeedHoldoffs (s.setFe f)).leftWait = (s.setFe f).leftWait :=
      leftWait_congr _ _ feFixed ((touches_releaseFeedHoldoffs _).same .now (by decide)) (releaseFeedHoldoffs_plan _)
    rw [← leftWait_eq_sensing, ← leftWait_eq_sensing, same, State.setFe_lane]
    by_cases h : (s.lane l).state = .holdoff .feed <;> simp [h]
  · rw [mail, adm]
    have reports : ∀ a : List AdmMsg, (allLanes.filter held).foldl (fun a l => a ++
        if (((s.setFe f).lane l).state.kind ≠ .acquire : Bool) then [AdmMsg.state l .acquire] else []) a =
        a ++ (allLanes.filter held).map (fun l => AdmMsg.state l .acquire) := fun a => by
      rw [foldl_append_filter, List.filter_eq_self.mpr]
      intro l hl
      have : (s.lane l).state = .holdoff .feed := of_decide_eq_true (List.mem_filter.mp hl).2
      simp [this]
    rw [reports]
    rfl
  · rw [mail, store]
    simp only [List.mem_filter, mem_allLanes, true_and, State.setFe_mail, State.setFe_lane, held]

/-- A release as the statements speak of it does not look at the ports. -/
theorem feedReleases_of_ports (h : FeedReleases s u) (same : Touches [.ports] u t) : FeedReleases s t := by
  obtain ⟨lanes, mail, store⟩ := h
  have lane : ∀ l, t.lane l = u.lane l := (same.quiet (by decide)).lane
  have wait : t.leftWait = u.leftWait :=
    leftWait_congr u t (same.same .fe (by decide)) (same.same .now (by decide)) (same.same .plan (by decide))
  have mails : t.mail = u.mail := same.same .mail (by decide)
  refine ⟨fun l => ?_, by rw [mails]; exact mail, fun l => by rw [mails]; exact store l⟩
  rw [lane, lanes, ← leftWait_eq_sensing, ← leftWait_eq_sensing, wait]

/-- The feed in a new state, its lanes released and its notice raised (R56, R57). -/
def feedEntered (f : FrontEnd) (s : State) : State := raiseFeedNotice (releaseFeedHoldoffs (s.setFe f))

theorem touches_feedEntered (f : FrontEnd) (s : State) : Touches [.fe, .lanes, .ports, .mail] s (feedEntered f s) := by
  have entered := (touches_setFe s f).mono (more := [.fe, .lanes, .ports, .mail]) (by decide)
  exact (entered.trans ((touches_releaseFeedHoldoffs _).mono (by decide))).trans
    ((touches_raiseFeedNotice _).mono (by decide))

theorem feedEntered_fe (f : FrontEnd) (s : State) : (feedEntered f s).fe = f :=
  (quiet_raiseFeedNotice _).fe.trans (releaseFeedHoldoffs_fe _)

theorem feedEntered_port (f : FrontEnd) (s : State) (q : Port) :
    (feedEntered f s).port q = (s.port q).raised (.feed f.feed f.retryCount) := by
  unfold feedEntered raiseFeedNotice
  rw [raiseNoticeAll_port, releaseFeedHoldoffs_fe, State.setFe_fe]
  exact congrArg (PortRec.raised · _) (congrArg (PerPort.get · q) ((touches_releaseFeedHoldoffs _).same .ports (by decide)))

theorem feedReleases_feedEntered (f : FrontEnd) (s : State) : FeedReleases s (feedEntered f s) :=
  feedReleases_of_ports (feedReleases_releaseFeedHoldoffs f s) (touches_raiseFeedNotice _)

/-! ### FEED_SET -/

theorem exec_feedSet {body : List Byte} (h : s.headBody p .feedSet = some body) :
    exec (.feedSet p) s = .next (settle (feedSet p body s)) := by
  simp [exec, execFeedSet, h]

theorem feedSet_of_range {body : List Byte} (h : 1 < byteAt body 0) : feedSet p body s = respond p .range [] s := by
  have none : feedRequestOfCode (byteAt body 0) = none := by
    unfold feedRequestOfCode
    split <;> first | omega | rfl
  simp [feedSet, none]

theorem feedSet_of_request {body : List Byte} {on : Bool} (h : feedRequestOfCode (byteAt body 0) = some on) :
    feedSet p body s = respond p .ok [BitVec.ofNat 8 (setFeed on s).fe.feed.code,
      BitVec.ofNat 8 (setFeed on s).fe.retryCount] (setFeed on s) := by
  simp [feedSet, h, enc8]

/-- The cells of R51's table in which FEED_SET changes nothing. -/
theorem setFeed_same {on : Bool} (h : on = false ∧ s.fe.feed = .off ∨ on = true ∧ (s.fe.feed = .on ∨ s.fe.feed = .faultWait)) :
    setFeed on s = s := by
  unfold setFeed
  rcases h with ⟨rfl, h⟩ | ⟨rfl, h | h⟩ <;> rw [h]

/-- The cells in which it takes the feed to the state named. -/
theorem setFeed_switches {on : Bool} {target : FeedState}
    (h : on = false ∧ s.fe.feed ≠ .off ∧ target = .off ∨
      on = true ∧ (s.fe.feed = .off ∨ s.fe.feed = .latched) ∧ target = .on) :
    setFeed on s = feedEntered (s.fe.switched target) s := by
  unfold setFeed
  rcases h with ⟨rfl, h, rfl⟩ | ⟨rfl, h | h, rfl⟩
  · cases hf : s.fe.feed with
    | off => exact absurd hf h
    | on => rfl
    | faultWait => rfl
    | latched => rfl
  · rw [h]; rfl
  · rw [h]; rfl

/-- Settles O16: the cells of R51's table, and in a cell that changes the feed its release, notice and answer. -/
theorem feedSetFollowsItsTable : Obligations.FeedSetFollowsItsTable := by
  intro p body s ⟨settled, attached, asked⟩
  rw [exec_feedSet asked]
  refine ⟨fun h => ?_, fun h => ?_, fun target h => ?_⟩
  · rw [feedSet_of_range h, settle_respond s settled p attached]
  · have same : ∃ on, feedRequestOfCode (byteAt body 0) = some on ∧ setFeed on s = s := by
      rcases h with ⟨code, feed⟩ | ⟨code, feed⟩
      · exact ⟨false, by rw [code]; rfl, setFeed_same (.inl ⟨rfl, feed⟩)⟩
      · exact ⟨true, by rw [code]; rfl, setFeed_same (.inr ⟨rfl, feed⟩)⟩
    obtain ⟨on, request, unchanged⟩ := same
    rw [feedSet_of_request request, unchanged, settle_respond s settled p attached]
  · have switches : ∃ on, feedRequestOfCode (byteAt body 0) = some on ∧
        setFeed on s = feedEntered (s.fe.switched target) s := by
      rcases h with ⟨code, feed, named⟩ | ⟨code, feed, named⟩
      · exact ⟨false, by rw [code]; rfl, setFeed_switches (.inl ⟨rfl, feed, named⟩)⟩
      · exact ⟨true, by rw [code]; rfl, setFeed_switches (.inr ⟨rfl, feed, named⟩)⟩
    obtain ⟨on, request, entered⟩ := switches
    rw [feedSet_of_request request, entered, feedEntered_fe]
    generalize hv : feedEntered (s.fe.switched target) s = v
    have fe : v.fe = s.fe.switched target := hv ▸ feedEntered_fe _ s
    have port : ∀ q, v.port q = (s.port q).raised (.feed target 0) := hv ▸ feedEntered_port (s.fe.switched target) s
    have releases : FeedReleases s v := hv ▸ feedReleases_feedEntered _ s
    have touched : Touches [.fe, .lanes, .ports, .mail] s v := hv ▸ touches_feedEntered _ s
    have queue : ∀ q, v.queue q = s.queue q := fun q => by
      unfold State.queue; rw [show v.pool = s.pool from touched.same .pool (by decide)]
    have ends : ∀ status fields, Touches [.ports] v (settle (respond p status fields v)) := fun status fields =>
      (touches_respond v p status fields).trans (touches_settle _)
    have queues : ∀ status fields q, (respond p status fields v).queue q = s.queue q := fun status fields q => by
      unfold State.queue
      rw [show (respond p status fields v).pool = v.pool from (touches_respond v p status fields).same .pool (by decide)]
      exact queue q
    refine ⟨_, rfl, ?_, feedReleases_of_ports releases (ends _ _), ?_, fun q hq => ?_,
      (touched.trans ((ends _ _).mono (by decide))).eq_of_feed⟩
    · rw [((ends _ _).quiet (by decide)).fe, fe]; rfl
    · rw [settle_port, queues, respond_port, if_pos rfl, port]
      exact arbitrated_answeredNoticed (settled.rests p) attached (answered_requests_ne asked) _ _ _
    · rw [settle_port, queues, respond_port, if_neg (Ne.symm hq), port, arbitrated_raised (settled.rests q)]

/-! ### OVERCURRENT_EVENT and FEED_RESTORE -/

/-- What an overcurrent leaves before the downlinks are looked at, but for its notice. -/
def feedCut (s : State) : State :=
  forEach allLanes feedHoldoff (reportDevice (if s.latches then .feedLatched else .feedFault) (s.setFe s.cutFrontEnd))

theorem touches_feedCut (s : State) : Touches [.fe, .lanes, .mail] s (feedCut s) :=
  (((touches_setFe s _).mono (by decide)).trans ((touches_report _ _).mono (by decide))).trans
    (touches_feedHoldoffs _ |>.mono (by decide))

theorem feedCut_fe (s : State) : (feedCut s).fe = s.cutFrontEnd := (touches_feedHoldoffs _).same .fe (by decide)

theorem feedCut_lane (s : State) (l : LaneId) :
    (feedCut s).lane l =
      if (s.lane l).state = .free ∨ (s.lane l).state = .holdoff .feed then s.lane l
      else { (s.lane l).stopTimers with state := .holdoff .feed } :=
  feedHoldoffs_lane _ l

theorem feedCut_port (s : State) (q : Port) : (feedCut s).port q = s.port q :=
  congrArg (PerPort.get · q) ((touches_feedCut s).same .ports (by decide))

theorem feedCut_mail (s : State) :
    (feedCut s).mail = { s.mail with
      toAdm := s.mail.toAdm ++ (allLanes.filter (fun l =>
        decide ((s.lane l).state.kind ∈ [LaneKind.acquire, .locked, .coast]))).map (fun l => AdmMsg.state l .holdoff)
      toLog := s.mail.toLog ++
        [{ kind := if s.latches then .feedLatched else .feedFault, port := none, lane := none, plan := none }] } := by
  have spoken := forEach_spoken (f := feedHoldoff)
    (reports := fun l x a => a ++ if (x.state.kind ∈ [LaneKind.acquire, .locked, .coast] : Bool) then
      [AdmMsg.state l .holdoff] else [])
    (tells := fun _ => []) (fun l k t e => by rw [feedHoldoff_lane, if_neg e]) (fun l t => feedHoldoff_mail l t)
    allLanes (reportDevice (if s.latches then .feedLatched else .feedFault) (s.setFe s.cutFrontEnd)) (by decide)
  obtain ⟨mail, store⟩ := spoken
  have silent : (feedCut s).mail.toStore = s.mail.toStore := Tab.ext fun l => by
    rw [feedCut, store, ite_self, List.append_nil]
    rfl
  rw [feedCut] at silent ⊢
  rw [mail, silent, foldl_append_filter]
  rfl

theorem exec_overcurrentEvent (h : s.fe.feed = .on) :
    exec .overcurrentEvent s = .next (settle (raiseFeedNotice (feedCut s))) :=
  if_pos h

theorem exec_feedRestore {t0 : Time} (h : s.fe.feed = .faultWait) (he : s.fe.feedWaitEnd = some t0)
    (reached : (s.now - t0).toNat < 2147483648) :
    exec .feedRestore s = .next (settle (feedEntered (s.fe.restored s.now) s)) :=
  if_pos ⟨h, timerDue_of_reached he reached⟩

/-- Settles O17: a cut's effect lane by lane, and a restore's as of FEED_SET's entry into ON. -/
theorem faultsCutAndRestoreTheFeed : Obligations.FaultsCutAndRestoreTheFeed := by
  refine ⟨fun s settled on => ?_, fun t0 s settled waits waitEnd reached => ?_⟩
  · intro within count latches
    have hwithin : s.withinRestore = within := by
      unfold State.withinRestore
      show _ = match s.fe.lastRestore with
        | none => false
        | some t0 => decide ((s.now - t0).toNat ≤ 1000)
      cases s.fe.lastRestore <;> rfl
    have hcount : s.settledRetries = count := by
      simp only [State.settledRetries, hwithin, count, Bool.and_eq_true, decide_eq_true_eq, Bool.not_eq_true']
    have hlatches : s.latches = latches := by
      simp only [State.latches, hwithin, hcount, latches]
    have touched : Touches [.fe, .lanes, .ports, .mail] s (settle (raiseFeedNotice (feedCut s))) :=
      (((touches_feedCut s).mono (by decide)).trans ((touches_raiseFeedNotice _).mono (by decide))).trans
        ((touches_settle _).mono (by decide))
    have quiet : Quiet (feedCut s) (settle (raiseFeedNotice (feedCut s))) := (quiet_raiseFeedNotice _).settle
    have fe : (settle (raiseFeedNotice (feedCut s))).fe = s.cutFrontEnd := Eq.trans quiet.fe (feedCut_fe s)
    have mail : (settle (raiseFeedNotice (feedCut s))).mail = (feedCut s).mail :=
      Eq.trans ((touches_settle _).same .mail (by decide)) ((touches_raiseFeedNotice _).same .mail (by decide))
    refine ⟨_, exec_overcurrentEvent on, ?_, ?_, fun l => ?_, fun q => ?_, touched.eq_of_feed⟩
    · rw [fe, State.cutFrontEnd, hlatches, hcount]; rfl
    · rw [mail, feedCut_mail, hlatches]
    · rw [quiet.lane, feedCut_lane]; rfl
    · rw [fe]
      refine settle_port_noticed settled (fun r => ?_) (Eq.trans ((touches_raiseFeedNotice _).same .pool (by decide))
        ((touches_feedCut s).same .pool (by decide))) q
      rw [raiseFeedNotice, raiseNoticeAll_port, feedCut_fe, feedCut_port]
  · have ends : Touches [.ports] (feedEntered (s.fe.restored s.now) s) (settle (feedEntered (s.fe.restored s.now) s)) :=
      touches_settle _
    have touched := touches_feedEntered (s.fe.restored s.now) s
    refine ⟨_, exec_feedRestore waits waitEnd reached, ?_, feedReleases_of_ports (feedReleases_feedEntered _ s) ends,
      settle_port_noticed settled (feedEntered_port (s.fe.restored s.now) s) (touched.same .pool (by decide)),
      (touched.trans (ends.mono (by decide))).eq_of_feed⟩
    rw [settle_fe, feedEntered_fe]; rfl

end Sys2Proof.Machine
end

section
/-! A move of the window and the assignment of a lane at it (R42, R43, R63, R129): what they leave of the admission
controller's records, of the ports and of the mail. -/

namespace Sys2Proof.Machine

variable {s t u : State} {l k : LaneId} {p q : Port}

/-! ## Reports that are dropped (log entry 10) -/

theorem foldl_filter_ne (items : List LaneId) (reports : List AdmMsg) :
    items.foldl (fun a l => a.filter (fun m => m.lane ≠ l)) reports =
      reports.filter (fun m => !decide (m.lane ∈ items)) := by
  induction items generalizing reports with
  | nil => simp
  | cons x rest ih =>
    rw [List.foldl_cons, ih, List.filter_filter]
    refine List.filter_congr fun m _ => ?_
    by_cases e : m.lane = x <;> simp [e]

/-! ## A release within an event (R42, R85, R129) -/

theorem releaseWithin_mail (l : LaneId) (s : State) :
    (releaseWithin l s).mail =
      s.mail.spoken l (fun a => a.filter (fun m => m.lane ≠ l)) (releaseNotice (s.lane l)) := by
  have freed_mail : (freeLane l s).mail = s.mail.spoken l id (releaseNotice (s.lane l)) := by
    unfold freeLane releaseNotice
    cases (s.lane l).channel <;> simp [Mail.spoken, State.modLane]
  show (dropReports l (freeLane l s)).mail = _
  rw [dropReports, State.setMail_mail, freed_mail]
  rfl

/-- An admission controller's record of a lane that it records as FREE (R133, R141). -/
def AdmLane.emptied (x : AdmLane) : AdmLane := { x with channel := none, rate := none, seen := .free }

theorem releaseWithin_adm (l : LaneId) (s : State) :
    (releaseWithin l s).adm = { s.adm with lanes := Tab.put s.adm.lanes l (s.admLane l).emptied } := by
  have same : (dropReports l (freeLane l s)).adm = s.adm :=
    Eq.trans ((touches_dropReports _ l).same .adm (by decide)) ((touches_freeLane s l).same .adm (by decide))
  show (recordFree l (dropReports l (freeLane l s))).adm = _
  unfold recordFree State.modAdmLane State.setAdmLane State.admLane
  rw [State.setAdm_adm, same]
  rfl

theorem releaseWithin_admLane (l k : LaneId) (s : State) :
    (releaseWithin l s).admLane k = if l = k then (s.admLane l).emptied else s.admLane k := by
  unfold State.admLane
  rw [releaseWithin_adm, Tab.get_put]
  rfl

/-- An operation taken over lanes in turn, each of which changes its own record at the admission controller. -/
theorem forEach_admLane {f : LaneId → State → State} {g : AdmLane → AdmLane}
    (one : ∀ l k t, (f l t).admLane k = if l = k then g (t.admLane l) else t.admLane k) (items : List LaneId) (s : State)
    (distinct : items.Nodup) :
    (forEach items f s).admLane k = if k ∈ items then g (s.admLane k) else s.admLane k := by
  induction items generalizing s with
  | nil => rfl
  | cons x rest ih =>
    obtain ⟨hx, hr⟩ := List.nodup_cons.mp distinct
    rw [forEach_cons, ih (f x s) hr, one]
    by_cases e : x = k
    · subst e; simp [hx]
    · simp [e, Ne.symm e]

/-- An operation on the admission controller leaves all but its lane records. -/
def SameAdmPorts (s t : State) : Prop := t.adm.ports = s.adm.ports ∧ t.adm.lastServed = s.adm.lastServed

theorem SameAdmPorts.refl (s : State) : SameAdmPorts s s := ⟨rfl, rfl⟩

theorem SameAdmPorts.trans (h : SameAdmPorts s t) (j : SameAdmPorts t u) : SameAdmPorts s u :=
  ⟨j.1.trans h.1, j.2.trans h.2⟩

theorem SameAdmPorts.of_adm (h : t.adm = s.adm) : SameAdmPorts s t := by
  unfold SameAdmPorts
  rw [h]
  exact ⟨rfl, rfl⟩

theorem sameAdmPorts_releaseWithin (l : LaneId) (s : State) : SameAdmPorts s (releaseWithin l s) := by
  unfold SameAdmPorts
  rw [releaseWithin_adm]
  exact ⟨rfl, rfl⟩

theorem sameAdmPorts_assignLane (l : LaneId) (x : PlanIndex) (rate : Option Nat) (s : State) :
    SameAdmPorts s (assignLane l x rate s) := ⟨rfl, rfl⟩

/-! ## A move of the window (R42, R43) -/

theorem mem_misfits_decide (s : State) (position : Nat) (l : LaneId) :
    decide (l ∈ s.misfits position) = leaves s position l :=
  Bool.eq_iff_iff.mpr (decide_eq_true_iff.trans mem_misfits)

/-- The releases of the lanes that do not fit: their reports are dropped, and each tells the store (R42, R85). -/
theorem clearWindow_mail (position : Nat) (s : State) :
    (clearWindow position s).mail = { s.mail with
      toAdm := s.mail.toAdm.filter (fun m => !leaves s position m.lane)
      toStore := (clearWindow position s).mail.toStore } ∧
    ∀ k, (clearWindow position s).mail.toStore.get k =
      s.mail.toStore.get k ++ if leaves s position k = true then releaseNotice (s.lane k) else [] := by
  obtain ⟨mail, store⟩ := forEach_spoken (f := releaseWithin)
    (reports := fun l _ a => a.filter (fun m => m.lane ≠ l)) (tells := releaseNotice)
    (fun l k t e => by rw [releaseWithin_lane, if_neg e]) (fun l t => releaseWithin_mail l t) (s.misfits position)
    (s.setFe { s.fe with window := position, lastMove := some s.now }) (nodup_misfits s position)
  constructor
  · unfold clearWindow
    rw [mail, foldl_filter_ne]
    simp only [mem_misfits_decide]
    rfl
  · intro k
    unfold clearWindow
    rw [store]
    simp only [mem_misfits]
    rfl

theorem restarts_of_not_active {position : Nat} (h : s.fe.state ≠ .active) (l : LaneId) :
    restarts s position l = false := by
  simp [restarts, h]

/-- The lanes that restart where the front end was ACTIVE are those still busy behind the releases. -/
theorem laneBusy_clearWindow {position : Nat} (h : s.fe.state = .active) (f : FrontEnd) :
    ((clearWindow position s).setFe f).laneBusy = restarts s position := by
  funext k
  unfold State.laneBusy restarts
  rw [State.setFe_lane, clearWindow_lane]
  cases hl : leaves s position k <;> simp [h, freed_state]

theorem clearWindow_lane_of_restarts {position : Nat} (h : restarts s position k = true) :
    (clearWindow position s).lane k = s.lane k := by
  have stays : leaves s position k = false := by
    unfold restarts at h
    revert h
    cases leaves s position k <;> simp
  rw [clearWindow_lane, stays]
  rfl

theorem moveReports_of_not_active {position : Nat} (h : s.fe.state ≠ .active) :
    moveReports s position = s.mail.toAdm.filter (fun m => !leaves s position m.lane) := by
  unfold moveReports
  simp [restarts_of_not_active h]

/-- What a move of the window reports and tells (R83, R85, R87, R100, R101). -/
theorem shiftWindow_mail (position : Nat) (s : State) :
    (shiftWindow position s).mail = { s.mail with
      toAdm := moveReports s position
      toStore := (shiftWindow position s).mail.toStore } ∧
    ∀ k, (shiftWindow position s).mail.toStore.get k = s.mail.toStore.get k ++ moveTells s position k := by
  obtain ⟨cleared, told⟩ := clearWindow_mail position s
  unfold shiftWindow
  by_cases ha : s.fe.state = .active
  · rw [if_pos ha]
    have busy := laneBusy_clearWindow (position := position) ha (s.fe.moved s.now position)
    generalize hv : (clearWindow position s).setFe (s.fe.moved s.now position) = v at busy
    have mails : v.mail = (clearWindow position s).mail := by subst hv; rfl
    have lanes : ∀ k, v.lane k = (clearWindow position s).lane k := fun k => by subst hv; rfl
    obtain ⟨mail, store⟩ := forEach_spoken (f := restartLane)
      (reports := fun l x a => a ++ if (x.state.kind ≠ .acquire : Bool) then [AdmMsg.state l .acquire] else [])
      (tells := restartAsked) (fun l k t e => by rw [restartLane_lane, if_neg e]) (fun l t => restartLane_mail l t)
      (allLanes.filter v.laneBusy) v (List.Nodup.filter _ (by decide))
    constructor
    · unfold restartBusyLanes
      rw [mail, foldl_append_filter, busy, List.filter_filter, mails, cleared]
      have kept : (allLanes.filter fun k => decide ((v.lane k).state.kind ≠ .acquire) && restarts s position k) =
          allLanes.filter (fun k => restarts s position k && decide ((s.lane k).state.kind ≠ .acquire)) := by
        refine List.filter_congr fun k _ => ?_
        by_cases hr : restarts s position k = true
        · rw [lanes, clearWindow_lane_of_restarts hr, Bool.and_comm]
        · simp [hr]
      rw [kept]
      rfl
    · intro k
      unfold restartBusyLanes
      rw [store, busy, mails, told]
      unfold moveTells
      simp only [List.mem_filter, mem_allLanes, true_and, List.append_assoc]
      by_cases hr : restarts s position k = true
      · have stays : leaves s position k = false := by
          unfold restarts at hr
          revert hr
          cases leaves s position k <;> simp
        simp [hr, stays, lanes, clearWindow_lane_of_restarts hr]
      · simp [hr]
  · rw [if_neg ha]
    refine ⟨?_, fun k => ?_⟩
    · rw [moveReports_of_not_active ha]
      exact cleared
    · rw [told]
      unfold moveTells
      simp [restarts_of_not_active ha]

theorem moveWindow_mail (position : Nat) (s : State) : (moveWindow position s).mail = (shiftWindow position s).mail := by
  rw [moveWindow_eq]
  exact (touches_raiseNoticeAll _ _).same .mail (by decide)

theorem shiftWindow_adm (position : Nat) (s : State) : (shiftWindow position s).adm = (clearWindow position s).adm := by
  unfold shiftWindow
  split
  · exact (touches_restartBusyLanes _).same .adm (by decide)
  · rfl

theorem moveWindow_adm (position : Nat) (s : State) : (moveWindow position s).adm = (clearWindow position s).adm := by
  rw [moveWindow_eq, ← shiftWindow_adm]
  exact (touches_raiseNoticeAll _ _).same .adm (by decide)

theorem sameAdmPorts_moveWindow (position : Nat) (s : State) : SameAdmPorts s (moveWindow position s) := by
  refine SameAdmPorts.trans (t := clearWindow position s) ?_ (.of_adm (moveWindow_adm position s))
  exact forEach_keeps (P := SameAdmPorts s) _ (fun x _ t h => h.trans (sameAdmPorts_releaseWithin x t))
    (SameAdmPorts.refl s)

/-- The admission controller records a released lane as FREE; its share count was 0 (R42, R133). -/
theorem moveWindow_admLane (position : Nat) (s : State) (k : LaneId) :
    (moveWindow position s).admLane k =
      if leaves s position k = true then { channel := none, share := 0, rate := none, seen := .free }
      else s.admLane k := by
  have view : (moveWindow position s).admLane k = (clearWindow position s).admLane k := by
    unfold State.admLane
    rw [moveWindow_adm]
  rw [view, clearWindow, forEach_admLane (fun l k t => releaseWithin_admLane l k t) _ _ (nodup_misfits s position)]
  simp only [mem_misfits]
  show (if leaves s position k = true then (s.admLane k).emptied else s.admLane k) = _
  split
  · next h =>
    have unshared : (s.admLane k).share = 0 := by
      unfold leaves at h
      simp only [Bool.and_eq_true, decide_eq_true_eq] at h
      exact h.1.2
    rw [AdmLane.emptied, unshared]
  · rfl

theorem moveWindow_port (position : Nat) (s : State) (q : Port) :
    (moveWindow position s).port q = (s.port q).raised (.window position (movedState s) .move) := by
  have state : (s.fe.moved s.now position).state = movedState s := by
    unfold FrontEnd.moved movedState
    split <;> rfl
  rw [moveWindow_eq, raiseNoticeAll_port, shiftWindow_fe, state]
  exact congrArg (PortRec.raised · _) (congrArg (PerPort.get · q) ((touches_shiftWindow position).same .ports (by decide)))

end Sys2Proof.Machine
end

section
/-! SUBSCRIBE with a move of the window (R126, R129): the checks it passes, the lane it takes, and its next state. -/

namespace Sys2Proof.Machine

variable {s t u : State} {l k : LaneId} {p q : Port}

/-! ## The first of an ascending list, and the longest lingering lane (R115, R127) -/

theorem find?_eq_some_of_least {n : Nat} {c : Fin n → Bool} {a : Fin n} {items : List (Fin n)}
    (ascending : items.Pairwise (· < ·)) (mem : a ∈ items) (holds : c a = true) (least : ∀ b, b < a → c b = false) :
    items.find? c = some a := by
  induction items with
  | nil => cases mem
  | cons x rest ih =>
    obtain ⟨below, rest_ascending⟩ := List.pairwise_cons.mp ascending
    rcases List.mem_cons.mp mem with rfl | inRest
    · exact List.find?_cons_of_pos holds
    · rw [List.find?_cons_of_neg (by simp [least x (below a inRest)])]
      exact ih rest_ascending inRest

/-- One lane of the search for the longest lingering one. -/
def olderOf (age : LaneId → Nat) (best : Option LaneId) (l : LaneId) : Option LaneId :=
  match best with
  | none => some l
  | some b => if age b < age l then some l else some b

theorem oldestLinger_eq : s.oldestLinger = (allLanes.filter s.lingering).foldl (olderOf s.lingerAge) none := rfl

theorem foldl_olderOf_oldest {age : LaneId → Nat} {items : List LaneId} (oldest : ∀ k ∈ items, age k ≤ age l) :
    items.foldl (olderOf age) (some l) = some l := by
  induction items with
  | nil => rfl
  | cons x rest ih =>
    have keeps : olderOf age (some l) x = some l :=
      if_neg (Nat.not_lt.mpr (oldest x (List.mem_cons_self ..)))
    rw [List.foldl_cons, keeps]
    exact ih fun k hk => oldest k (List.mem_cons_of_mem x hk)

/-- The search finds the lane that is older than every other one, or as old and lower-numbered. -/
theorem foldl_olderOf {age : LaneId → Nat} {items : List LaneId} {best : Option LaneId}
    (ascending : items.Pairwise (· < ·)) (mem : l ∈ items)
    (older : ∀ k ∈ items, k ≠ l → age k < age l ∨ age k = age l ∧ l < k) (before : ∀ b, best = some b → age b < age l) :
    items.foldl (olderOf age) best = some l := by
  induction items generalizing best with
  | nil => cases mem
  | cons x rest ih =>
    obtain ⟨below, rest_ascending⟩ := List.pairwise_cons.mp ascending
    have rest_older : ∀ k ∈ rest, k ≠ l → age k < age l ∨ age k = age l ∧ l < k := fun k hk =>
      older k (List.mem_cons_of_mem x hk)
    rw [List.foldl_cons]
    rcases List.mem_cons.mp mem with rfl | inRest
    · have taken : olderOf age best l = some l := by
        cases best with
        | none => rfl
        | some b => exact if_pos (before b rfl)
      rw [taken]
      refine foldl_olderOf_oldest fun k hk => ?_
      rcases rest_older k hk (Ne.symm (ne_of_lt (below k hk))) with h | ⟨h, -⟩ <;> omega
    · have hx : x < l := below l inRest
      have younger : age x < age l := by
        rcases older x (List.mem_cons_self ..) (ne_of_lt hx) with h | ⟨-, h⟩
        · exact h
        · exact absurd h (not_lt_of_gt hx)
      refine ih rest_ascending inRest rest_older fun b hb => ?_
      cases best with
      | none => exact Option.some.inj hb ▸ younger
      | some c =>
        unfold olderOf at hb
        simp only at hb
        split at hb
        · exact Option.some.inj hb ▸ younger
        · exact Option.some.inj hb ▸ before c rfl

/-! ## The checks of a SUBSCRIBE (R125 to R128) -/

theorem mem_allIds : ∀ i : SubId, i ∈ allIds := by decide

theorem mem_allMemos : ∀ m : MemoId, m ∈ allMemos := by decide

theorem freeId_of_least {i : SubId} (free : s.sub p i = none) (lowest : ∀ j, j < i → s.sub p j ≠ none) :
    s.freeId p = some i :=
  find?_eq_some_of_least (by decide) (mem_allIds i) (decide_eq_true free) fun j hj =>
    decide_eq_false (lowest j hj)

theorem subOn_eq_none {x : PlanIndex} (fresh : ∀ j v, s.sub p j = some v → v.channel ≠ x) : s.subOn p x = none := by
  refine List.find?_eq_none.mpr fun j _ h => ?_
  obtain ⟨v, hv, hx⟩ := Option.map_eq_some_iff.mp (of_decide_eq_true h)
  exact fresh j v hv hx

theorem anyShared_eq_false : s.anyShared = false ↔ ∀ l, (s.admLane l).share = 0 := by
  unfold State.anyShared
  rw [List.any_eq_false]
  simp [mem_allLanes]

theorem moveTooSoon_eq_none {flagged : Bool} (h : MoveAllowed s flagged) : s.moveTooSoon = none := by
  obtain ⟨still, free | ⟨-, late⟩⟩ := h
  · rw [State.moveTooSoon, if_neg still, anyShared_eq_false.mpr free]
    rfl
  · rw [State.moveTooSoon, if_neg still]
    cases hm : s.fe.lastMove with
    | none => exact ite_self _
    | some t0 =>
      have old : ¬ elapsed s.now t0 < s.plan.settings.moveInterval := Nat.not_lt.mpr (late t0 hm)
      simp [old]

/-- The fourth check finds a move that is allowed (R45, R126). -/
theorem windowCheck_move {e : PlanEntry} {position : Nat} {flagged : Bool} (outside : fits s.fe.window e = false)
    (place : placement e s.sharedEntries = some position) (allowed : MoveAllowed s flagged) :
    s.windowCheck e flagged = .move position := by
  have asked : ¬ (s.anyShared && !flagged) = true := by
    obtain ⟨-, free | ⟨flag, -⟩⟩ := allowed
    · simp [anyShared_eq_false.mpr free]
    · simp [flag]
  have never : ¬ fits s.fe.window e = true := by simp [outside]
  rw [State.windowCheck, if_neg never, place]
  simp only [if_neg asked, moveTooSoon_eq_none allowed]

/-- Lanes that count as FREE with a move pending, as the statement says it (R127). -/
theorem countsFree_iff {position : Nat} :
    s.countsFree (some position) l = true ↔ (s.lane l).state = .free ∨ leaves s position l = true := by
  unfold State.countsFree
  simp only [Bool.or_eq_true, Bool.not_eq_true', leaves_eq]
  rw [← Bool.not_eq_true, laneBusy_iff, not_not]

theorem chooseLane_free {x : PlanIndex} {position : Nat} (unheld : s.holdingLane x = none)
    (free : s.countsFree (some position) l = true) (lowest : ∀ k, k < l → s.countsFree (some position) k = false) :
    s.chooseLane x (some position) = some (.free l) := by
  rw [State.chooseLane, unheld]
  simp only [find?_eq_some_of_least (by decide) (mem_allLanes l) free lowest]

theorem chooseLane_reclaim {x : PlanIndex} {position : Nat} (unheld : s.holdingLane x = none)
    (full : ∀ k, s.countsFree (some position) k = false) (unshared : (s.admLane l).share = 0)
    (oldest : ∀ k, (s.admLane k).share = 0 → k ≠ l →
      s.lingerAge k < s.lingerAge l ∨ (s.lingerAge k = s.lingerAge l ∧ l < k)) :
    s.chooseLane x (some position) = some (.reclaim l) := by
  have busy : s.laneBusy l = true := by
    have := full l
    unfold State.countsFree at this
    simp only [Bool.or_eq_false_iff, Bool.not_eq_false'] at this
    exact this.1
  have lingers : s.lingering l = true := by simp [State.lingering, busy, unshared]
  have found : s.oldestLinger = some l := by
    rw [oldestLinger_eq]
    refine foldl_olderOf (List.Pairwise.filter _ (by decide)) (List.mem_filter.mpr ⟨mem_allLanes l, lingers⟩)
      (fun k hk => oldest k ?_) (fun b hb => nomatch hb)
    have := (List.mem_filter.mp hk).2
    simp only [State.lingering, Bool.and_eq_true, decide_eq_true_eq] at this
    exact this.2
  have taken : allLanes.find? (s.countsFree (some position)) = none :=
    List.find?_eq_none.mpr fun k _ => by rw [full k]; exact Bool.false_ne_true
  rw [State.chooseLane, unheld]
  simp only [taken, found]
  rfl

/-- The rate a channel is charged from where no lane carries it (R128). -/
theorem memoRate_eq {x : PlanIndex} {rate : Option Nat} (h : MemoRate s x rate) :
    (s.memoOf x).bind (fun m => (s.memo m).fields.streamRate) = rate := by
  obtain ⟨tagged, absent⟩ := h
  cases hm : s.memoOf x with
  | some m => exact tagged m (of_decide_eq_true (List.find?_some (p := fun m => decide ((s.memo m).tag = some x)) hm))
  | none =>
    refine (absent fun m hx => ?_).symm
    exact List.find?_eq_none.mp hm m (mem_allMemos m) (decide_eq_true hx)

/-- All six checks of a SUBSCRIBE with a move passed (R125 to R128). -/
theorem checkSubscribe_move {b : SubscribeBody} {e : PlanEntry} {i : SubId} {position : Nat} {rate : Option Nat}
    {choice : LaneChoice} (entry : s.entry b.index = some e) (fresh : s.subOn p b.index = none)
    (id : s.freeId p = some i) (moves : s.windowCheck e b.allowMove = .move position)
    (chosen : s.chooseLane b.index (some position) = some choice) (rated : s.subscribeRate b.index choice = rate)
    (room : (s.admPort p).committed + linkLoad (rate.getD (provisionalRate e.bandwidth)) ≤ (s.admPort p).capacity) :
    s.checkSubscribe p b =
      .accept i choice (some position) rate (linkLoad (rate.getD (provisionalRate e.bandwidth))) := by
  have charge : s.chargeFor b.index rate = linkLoad (rate.getD (provisionalRate e.bandwidth)) := by
    unfold State.chargeFor State.bandwidth
    rw [entry]
    rfl
  have fits : (s.admPort p).fits (linkLoad (rate.getD (provisionalRate e.bandwidth))) = true := decide_eq_true room
  unfold State.checkSubscribe
  simp only [entry, fresh, id, moves]
  unfold State.laneAndCapacity
  simp only [chosen, rated, charge, fits, if_true]

/-! ## The lane that is taken (R63, R127, R129) -/

theorem assigned_freed (x : PlanIndex) (y : Lane) : assigned x (freed y) = assigned x y := rfl

/-- A lane for itself: FREE already, or reclaimed in the same event. -/
def LaneChoice.taking (reclaimed : Bool) (l : LaneId) : LaneChoice := if reclaimed = true then .reclaim l else .free l

theorem takeLane_taking_lane (reclaimed : Bool) (l k : LaneId) (x : PlanIndex) (rate : Option Nat) (s : State) :
    (takeLane (.taking reclaimed l) x rate s).lane k = if l = k then assigned x (s.lane l) else s.lane k := by
  cases reclaimed with
  | false => exact assignLane_lane x rate
  | true =>
    show (assignLane l x rate (releaseWithin l s)).lane k = _
    rw [assignLane_lane, releaseWithin_lane, releaseWithin_lane, if_pos rfl, released_eq_freed, assigned_freed]
    by_cases e : l = k <;> simp [e]

theorem assignLane_admLane (l k : LaneId) (x : PlanIndex) (rate : Option Nat) (s : State) :
    (assignLane l x rate s).admLane k =
      if l = k then { channel := some x, share := 1, rate, seen := .acquire } else s.admLane k := by
  unfold assignLane reportState
  simp only [tellStore_eq, tellAdmission_eq, State.setMail_admLane, State.setAdmLane_admLane, dropReports]
  rfl

theorem takeLane_taking_admLane (reclaimed : Bool) (l k : LaneId) (x : PlanIndex) (rate : Option Nat) (s : State) :
    (takeLane (.taking reclaimed l) x rate s).admLane k =
      if l = k then { channel := some x, share := 1, rate, seen := .acquire } else s.admLane k := by
  cases reclaimed with
  | false => exact assignLane_admLane l k x rate s
  | true =>
    show (assignLane l x rate (releaseWithin l s)).admLane k = _
    rw [assignLane_admLane, releaseWithin_admLane]
    by_cases e : l = k <;> simp [e]

theorem sameAdmPorts_takeLane_taking (reclaimed : Bool) (l : LaneId) (x : PlanIndex) (rate : Option Nat) (s : State) :
    SameAdmPorts s (takeLane (.taking reclaimed l) x rate s) := by
  cases reclaimed with
  | false => exact sameAdmPorts_assignLane l x rate s
  | true => exact (sameAdmPorts_releaseWithin l s).trans (sameAdmPorts_assignLane l x rate _)

theorem assignLane_mail (l : LaneId) (x : PlanIndex) (rate : Option Nat) (s : State) :
    (assignLane l x rate s).mail =
      s.mail.spoken l (fun a => a.filter (fun m => m.lane ≠ l) ++ [AdmMsg.state l .acquire]) [.lookup x] := by
  unfold assignLane reportState dropReports
  simp [Mail.spoken]

theorem takeLane_taking_mail (reclaimed : Bool) (l : LaneId) (x : PlanIndex) (rate : Option Nat) (s : State) :
    (takeLane (.taking reclaimed l) x rate s).mail =
      s.mail.spoken l (fun a => a.filter (fun m => m.lane ≠ l) ++ [AdmMsg.state l .acquire])
        ((if reclaimed = true then releaseNotice (s.lane l) else []) ++ [.lookup x]) := by
  cases reclaimed with
  | false => exact assignLane_mail l x rate s
  | true =>
    show (assignLane l x rate (releaseWithin l s)).mail = _
    rw [assignLane_mail, releaseWithin_mail]
    simp [Mail.spoken, List.filter_filter]

/-! ## The front end (R35, R36, R42, R43) -/

/-- The front end with another W and last-move stamp (R42). -/
def FrontEnd.shifted (f : FrontEnd) (position : Nat) (now : Time) : FrontEnd :=
  { f with window := position, lastMove := some now }

/-- The moves toward a level look neither at W nor at the last-move stamp. -/
theorem steppedDown_shifted (f : FrontEnd) (now stamp : Time) (level : Target) (position : Nat) :
    steppedDown (f.shifted position stamp) now level = (steppedDown f now level).shifted position stamp := by
  have residency : (f.shifted position stamp).residencyOver now = f.residencyOver now := rfl
  cases level with
  | active => rfl
  | idle =>
    rw [steppedDown_idle, steppedDown_idle, residency]
    split <;> rfl
  | off =>
    rw [steppedDown_off, steppedDown_off, residency]
    split <;> rfl

theorem toward_shifted (f : FrontEnd) (now stamp : Time) (level : Target) (position : Nat) :
    (f.shifted position stamp).toward now level = (f.toward now level).shifted position stamp := by
  by_cases ha : f.state = .active
  · rw [toward_active now level ha, toward_active (f := f.shifted position stamp) now level ha, steppedDown_shifted]
  · obtain ⟨state, _⟩ := f
    cases state with
    | active => exact absurd rfl ha
    | off => cases level <;> rfl
    | idle => cases level <;> rfl
    | waking => rfl
    | retuning => rfl

theorem moved_of_active {f : FrontEnd} (now : Time) (position : Nat) (h : f.state = .active) :
    f.moved now position =
      { f with window := position, lastMove := some now, state := .retuning, retuneEnd := some (now + 40#32) } :=
  if_pos h

theorem moved_of_not_active {f : FrontEnd} (now : Time) (position : Nat) (h : f.state ≠ .active) :
    f.moved now position = f.shifted position now :=
  if_neg h

/-- The front end after a move and, where the target has changed, the moves toward the new one. -/
theorem retarget_moved_fe {position : Nat} (fe : u.fe = s.fe.moved s.now position) (now : u.now = s.now) :
    (retarget s.target u).fe =
      if s.fe.state = .active then
        { s.fe with
          window := position, lastMove := some s.now, state := .retuning, retuneEnd := some (s.now + 40#32) }
      else { steered s u.target with window := position, lastMove := some s.now } := by
  rw [retarget_fe, fe, now]
  by_cases ha : s.fe.state = .active
  · rw [if_pos ha, moved_of_active _ _ ha, toward_retuning s.now u.target rfl, ite_self]
  · rw [if_neg ha, moved_of_not_active _ _ ha, toward_shifted, steered_eq]
    exact (apply_ite (fun g : FrontEnd => g.shifted position s.now) _ _ _).symm

/-! ## The subscription, the answer and the notices (R129, R173, R175) -/

/-- The admission controller's tables with a new subscription (R115, R129). -/
def enrollSub (p : Port) (i : SubId) (v : Sub) (s : State) : State :=
  (s.modAdmPort p (fun a => { a with committed := a.committed + v.charge })).setSub p i (some v)

theorem enrollSub_ports (p : Port) (i : SubId) (v : Sub) (s : State) :
    (enrollSub p i v s).adm.ports = s.adm.ports.put p { s.admPort p with
      committed := (s.admPort p).committed + v.charge, subs := Tab.put (s.admPort p).subs i (some v) } := by
  unfold enrollSub State.modAdmPort State.setSub State.setAdmPort State.admPort
  simp

theorem enrollSub_admLane (p : Port) (i : SubId) (v : Sub) (s : State) (k : LaneId) :
    (enrollSub p i v s).admLane k = s.admLane k := rfl

theorem enrollSub_lastServed (p : Port) (i : SubId) (v : Sub) (s : State) :
    (enrollSub p i v s).adm.lastServed = s.adm.lastServed := rfl

theorem touches_enrollSub (p : Port) (i : SubId) (v : Sub) (s : State) : Touches [.adm] s (enrollSub p i v s) :=
  (touches_setAdmPort s _ _).trans (touches_setSub _ _ _ _)

/-- A lane of its own starts a subscription in PENDING (R119, R129). -/
theorem derivedState_taking {b : SubscribeBody} {charge : Nat} (link : (s.port p).link = .attached)
    (seen : (s.admLane l).seen = .acquire) : s.derivedState p (newSub b l charge .pending) = some .pending := by
  have here : (s.admLane (newSub b l charge .pending).lane).seen = .acquire := seen
  unfold State.derivedState
  rw [link, here]
  rfl

/-- A port's record after a notice, its request's answer and another notice, before its downlink is looked at. -/
theorem raised_responded_raised {r : PortRec} (attached : r.link = .attached) (asked : r.requests ≠ [])
    (status : Status) (fields : List Byte) (first second : Notice) :
    ((r.raised first).responded status fields).raised second =
      { r.responded status fields with notices := enqueueNotice second (enqueueNotice first r.notices) } := by
  rw [raised_of_attached first attached]
  unfold PortRec.responded
  cases hr : r.requests with
  | nil => exact absurd hr asked
  | cons x rest => exact raised_of_attached second attached

theorem takeLane_port (choice : LaneChoice) (x : PlanIndex) (rate : Option Nat) (s : State) (q : Port) :
    (takeLane choice x rate s).port q = s.port q :=
  congrArg (PerPort.get · q) ((touches_takeLane s choice x rate).same .ports (by decide))

theorem FrontEnd.moved_window (f : FrontEnd) (now : Time) (position : Nat) : (f.moved now position).window = position := by
  unfold FrontEnd.moved
  split <;> rfl

/-- The changes of a SUBSCRIBE with a move, in the order of R129, before the downlinks are looked at. -/
theorem createSub_move {b : SubscribeBody} {i : SubId} {position charge : Nat} {rate : Option Nat} (reclaimed : Bool)
    (link : (s.port p).link = .attached) :
    createSub p b i (.taking reclaimed l) (some position) rate charge s =
      retarget s.target (raiseNotice (.streamState i (some (.pending, l, charge))) p
        (respond p .ok (admittedFields i l charge rate position b.pids)
          (enrollSub p i (created b l charge .pending)
            (takeLane (.taking reclaimed l) b.index rate (moveWindow position s))))) := by
  have lane : (LaneChoice.taking reclaimed l).lane = l := by cases reclaimed <;> rfl
  unfold createSub
  simp only [lane]
  generalize hv : takeLane (.taking reclaimed l) b.index rate (moveWindow position s) = v
  have attached : (v.port p).link = .attached := by
    rw [← hv, takeLane_port, moveWindow_port, raised_link, link]
  have seen : (v.admLane l).seen = .acquire := by
    rw [← hv, takeLane_taking_admLane, if_pos rfl]
  have window : v.fe.window = position := by
    rw [← hv, takeLane_fe, moveWindow_fe, FrontEnd.moved_window]
  have fields : enc8 i.val ++ enc8 l.val ++ enc16 charge ++ encFlag rate.isSome ++ enc32 v.fe.window ++ encPids b.pids =
      admittedFields i l charge rate position b.pids := by
    rw [window, admittedFields]
    simp only [List.append_assoc]
    rfl
  rw [derivedState_taking attached seen, ← fields]
  rfl

/-! ## A move of the window with the lane taken at it -/

/-- The window moved, and a lane taken for a channel behind the move (R129, steps 1 to 4). -/
def movedTaken (position : Nat) (reclaimed : Bool) (l : LaneId) (x : PlanIndex) (rate : Option Nat) (s : State) : State :=
  takeLane (.taking reclaimed l) x rate (moveWindow position s)

variable {position : Nat} {reclaimed : Bool} {x : PlanIndex} {rate : Option Nat}

theorem touches_movedTaken :
    Touches [.fe, .lanes, .adm, .ports, .mail] s (movedTaken position reclaimed l x rate s) :=
  (touches_moveWindow s position).trans ((touches_takeLane _ _ x rate).mono (by decide))

theorem movedTaken_fe : (movedTaken position reclaimed l x rate s).fe = s.fe.moved s.now position :=
  Eq.trans (takeLane_fe _ x rate _) (moveWindow_fe position s)

theorem movedTaken_port (q : Port) :
    (movedTaken position reclaimed l x rate s).port q = (s.port q).raised (.window position (movedState s) .move) :=
  (takeLane_port _ x rate _ q).trans (moveWindow_port position s q)

theorem movedTaken_lane_other (h : k ≠ l) :
    (movedTaken position reclaimed l x rate s).lane k =
      if leaves s position k = true then freed (s.lane k)
      else if restarts s position k = true then restarted (s.lane k) else s.lane k := by
  unfold movedTaken
  rw [takeLane_taking_lane, if_neg (Ne.symm h), moveWindow_lane]

theorem movedTaken_lane_same :
    (movedTaken position reclaimed l x rate s).lane l =
      assigned x (if restarts s position l = true then restarted (s.lane l) else s.lane l) := by
  unfold movedTaken
  rw [takeLane_taking_lane, if_pos rfl, moveWindow_lane]
  by_cases h : leaves s position l = true
  · have stays : ¬ restarts s position l = true := by simp [restarts, h]
    rw [if_pos h, if_neg stays, assigned_freed]
  · rw [if_neg h]

theorem movedTaken_admLane_other (h : k ≠ l) :
    (movedTaken position reclaimed l x rate s).admLane k =
      if leaves s position k = true then { channel := none, share := 0, rate := none, seen := .free }
      else s.admLane k := by
  unfold movedTaken
  rw [takeLane_taking_admLane, if_neg (Ne.symm h), moveWindow_admLane]

theorem movedTaken_admLane_same :
    (movedTaken position reclaimed l x rate s).admLane l =
      { channel := some x, share := 1, rate, seen := .acquire } := by
  unfold movedTaken
  rw [takeLane_taking_admLane, if_pos rfl]

theorem sameAdmPorts_movedTaken : SameAdmPorts s (movedTaken position reclaimed l x rate s) :=
  (sameAdmPorts_moveWindow position s).trans (sameAdmPorts_takeLane_taking reclaimed l x rate _)

theorem movedTaken_mail :
    (movedTaken position reclaimed l x rate s).mail = { s.mail with
      toAdm := (moveReports s position).filter (fun m => m.lane ≠ l) ++ [AdmMsg.state l .acquire]
      toStore := (movedTaken position reclaimed l x rate s).mail.toStore } := by
  unfold movedTaken
  rw [takeLane_taking_mail, moveWindow_mail, (shiftWindow_mail position s).1]
  rfl

theorem movedTaken_toStore_other (h : k ≠ l) :
    (movedTaken position reclaimed l x rate s).mail.toStore.get k =
      s.mail.toStore.get k ++ moveTells s position k := by
  unfold movedTaken
  rw [takeLane_taking_mail, moveWindow_mail, Mail.spoken, Tab.get_put, if_neg (Ne.symm h), (shiftWindow_mail position s).2]

/-- A reclaimed lane is released behind its restart, which leaves its channel (R85, R129). -/
theorem movedTaken_toStore_same (kept : reclaimed = true → leaves s position l = false) :
    (movedTaken position reclaimed l x rate s).mail.toStore.get l = s.mail.toStore.get l ++ (moveTells s position l ++
      ((if reclaimed = true then releaseNotice (s.lane l) else []) ++ [StoreMsg.lookup x])) := by
  have channel : reclaimed = true → releaseNotice ((moveWindow position s).lane l) = releaseNotice (s.lane l) := fun h => by
    rw [moveWindow_lane, kept h]
    simp only [Bool.false_eq_true, if_false]
    split <;> rfl
  unfold movedTaken
  rw [takeLane_taking_mail, moveWindow_mail, Mail.spoken, Tab.get_put, if_pos rfl, (shiftWindow_mail position s).2,
    List.append_assoc]
  by_cases h : reclaimed = true
  · rw [if_pos h, if_pos h, channel h]
  · rw [if_neg h, if_neg h]

end Sys2Proof.Machine
end

section
/-! SUBSCRIBE with a move of the window: the admitted request's next state, part by part (R129). -/

namespace Sys2Proof.Machine

variable {s t u v : State} {l k : LaneId} {p q : Port} {position : Nat} {reclaimed : Bool} {rate : Option Nat}
  {b : SubscribeBody} {i : SubId} {charge : Nat}

/-! ## Behind the lane that is taken -/

/-- The record of the subscription, the answer and the notice of its stream (R129). -/
def admittedAnswer (p : Port) (b : SubscribeBody) (i : SubId) (l : LaneId) (charge position : Nat) (rate : Option Nat)
    (v : State) : State :=
  raiseNotice (.streamState i (some (.pending, l, charge))) p
    (respond p .ok (admittedFields i l charge rate position b.pids) (enrollSub p i (created b l charge .pending) v))

theorem touches_admittedAnswer : Touches [.adm, .ports] v (admittedAnswer p b i l charge position rate v) :=
  (((touches_enrollSub p i _ v).mono (by decide)).trans ((touches_respond _ p _ _).mono (by decide))).trans
    ((touches_raiseNotice _ _ p).mono (by decide))

theorem admittedAnswer_adm :
    (admittedAnswer p b i l charge position rate v).adm = (enrollSub p i (created b l charge .pending) v).adm :=
  Eq.trans ((touches_raiseNotice _ _ p).same .adm (by decide)) ((touches_respond _ p _ _).same .adm (by decide))

theorem admittedAnswer_lane (k : LaneId) : (admittedAnswer p b i l charge position rate v).lane k = v.lane k :=
  congrArg (Vector.get · k) (touches_admittedAnswer.same .lanes (by decide))

theorem admittedAnswer_port (q : Port) :
    (admittedAnswer p b i l charge position rate v).port q =
      if p = q then
        ((v.port p).responded .ok (admittedFields i l charge rate position b.pids)).raised
          (.streamState i (some (.pending, l, charge)))
      else v.port q := by
  have enrolled : ∀ r, (enrollSub p i (created b l charge .pending) v).port r = v.port r := fun r =>
    congrArg (PerPort.get · r) ((touches_enrollSub p i _ v).same .ports (by decide))
  unfold admittedAnswer
  rw [raiseNotice_port, respond_port, respond_port, if_pos rfl, enrolled, enrolled]
  by_cases e : p = q <;> simp [e]

/-- What an admitted SUBSCRIBE does behind the lane it takes: its record and answer, the moves toward the target, and the
downlinks (R129, R175). -/
def admittedEnd (p : Port) (b : SubscribeBody) (i : SubId) (l : LaneId) (charge position : Nat) (rate : Option Nat)
    (before : Target) (v : State) : State :=
  settle (retarget before (admittedAnswer p b i l charge position rate v))

/-- An admitted SUBSCRIBE with a move is the lane taken at the move and the end of the event (R129). -/
theorem settle_createSub_move (link : (s.port p).link = .attached) :
    settle (createSub p b i (.taking reclaimed l) (some position) rate charge s) =
      admittedEnd p b i l charge position rate s.target (movedTaken position reclaimed l b.index rate s) := by
  rw [createSub_move reclaimed link]
  rfl

section
variable {before : Target}

theorem touches_retarget_settle : Touches [.fe, .ports] u (settle (retarget before u)) :=
  ((touches_retarget u before).mono (by decide)).trans ((touches_settle _).mono (by decide))

theorem touches_admittedEnd :
    Touches [.fe, .adm, .ports] v (admittedEnd p b i l charge position rate before v) :=
  (touches_admittedAnswer.mono (by decide)).trans (touches_retarget_settle.mono (by decide))

theorem admittedEnd_lane (k : LaneId) : (admittedEnd p b i l charge position rate before v).lane k = v.lane k :=
  congrArg (Vector.get · k) (touches_admittedEnd.same .lanes (by decide))

theorem admittedEnd_mail : (admittedEnd p b i l charge position rate before v).mail = v.mail :=
  touches_admittedEnd.same .mail (by decide)

theorem admittedEnd_adm :
    (admittedEnd p b i l charge position rate before v).adm = (enrollSub p i (created b l charge .pending) v).adm :=
  Eq.trans (touches_retarget_settle.same .adm (by decide)) admittedAnswer_adm

theorem admittedEnd_admLane (k : LaneId) :
    (admittedEnd p b i l charge position rate before v).admLane k = v.admLane k :=
  Eq.trans (congrArg (fun a : Admission => a.lanes.get k) admittedEnd_adm) (enrollSub_admLane p i _ v k)

theorem admittedEnd_port (q : Port) :
    (admittedEnd p b i l charge position rate before v).port q =
      ((admittedAnswer p b i l charge position rate v).port q).arbitrated (v.queue q) := by
  have pool : (retarget before (admittedAnswer p b i l charge position rate v)).pool = v.pool :=
    Eq.trans ((touches_retarget _ before).same .pool (by decide)) (touches_admittedAnswer.same .pool (by decide))
  have port : (retarget before (admittedAnswer p b i l charge position rate v)).port q =
      (admittedAnswer p b i l charge position rate v).port q :=
    congrArg (PerPort.get · q) ((touches_retarget _ before).same .ports (by decide))
  unfold admittedEnd
  rw [settle_port, port, State.queue, pool]
  rfl

theorem admittedEnd_fe :
    (admittedEnd p b i l charge position rate before v).fe =
      (retarget before (admittedAnswer p b i l charge position rate v)).fe :=
  settle_fe _

end

/-! ## The whole event -/

/-- The state after an admitted SUBSCRIBE with a move. -/
def subscribedMove (p : Port) (b : SubscribeBody) (i : SubId) (l : LaneId) (charge position : Nat) (rate : Option Nat)
    (reclaimed : Bool) (s : State) : State :=
  admittedEnd p b i l charge position rate s.target (movedTaken position reclaimed l b.index rate s)

theorem touches_subscribedMove :
    Touches [.fe, .lanes, .adm, .ports, .mail] s (subscribedMove p b i l charge position rate reclaimed s) :=
  touches_movedTaken.trans (touches_admittedEnd.mono (by decide))

theorem subscribedMove_lane_same :
    (subscribedMove p b i l charge position rate reclaimed s).lane l =
      assigned b.index (if restarts s position l = true then restarted (s.lane l) else s.lane l) :=
  (admittedEnd_lane l).trans movedTaken_lane_same

theorem subscribedMove_target : (subscribedMove p b i l charge position rate reclaimed s).target = .active :=
  target_eq_active.mpr ⟨l, by rw [subscribedMove_lane_same]; exact fun h => nomatch h⟩

theorem subscribedMove_movedTo :
    MovedTo s (subscribedMove p b i l charge position rate reclaimed s) position (fun k => k ≠ l) := by
  refine ⟨?_, fun k hk => ⟨(admittedEnd_lane k).trans (movedTaken_lane_other hk),
    (admittedEnd_admLane k).trans (movedTaken_admLane_other hk)⟩⟩
  generalize hu : admittedAnswer p b i l charge position rate (movedTaken position reclaimed l b.index rate s) = u
  have touched : Touches [.adm, .ports] (movedTaken position reclaimed l b.index rate s) u := hu ▸ touches_admittedAnswer
  have target : u.target = .active := target_eq_active.mpr ⟨l, by
    rw [← hu, admittedAnswer_lane, movedTaken_lane_same]; exact fun h => nomatch h⟩
  have fe : u.fe = s.fe.moved s.now position := Eq.trans (touched.same .fe (by decide)) movedTaken_fe
  have now : u.now = s.now := Eq.trans (touched.same .now (by decide)) (touches_movedTaken.same .now (by decide))
  rw [subscribedMove_target, subscribedMove, admittedEnd_fe, hu, retarget_moved_fe fe now, target]

theorem subscribedMove_admLane_same :
    (subscribedMove p b i l charge position rate reclaimed s).admLane l =
      { channel := some b.index, share := 1, rate, seen := .acquire } :=
  (admittedEnd_admLane l).trans movedTaken_admLane_same

theorem subscribedMove_admPorts :
    (subscribedMove p b i l charge position rate reclaimed s).adm.ports =
      (enrolled s p i (created b l charge .pending) (s.admLane l)).ports := by
  have ports : (movedTaken position reclaimed l b.index rate s).adm.ports = s.adm.ports := sameAdmPorts_movedTaken.1
  unfold subscribedMove
  rw [admittedEnd_adm, enrollSub_ports, State.admPort, ports]
  rfl

theorem subscribedMove_lastServed :
    (subscribedMove p b i l charge position rate reclaimed s).adm.lastServed = s.adm.lastServed := by
  unfold subscribedMove
  rw [admittedEnd_adm, enrollSub_lastServed]
  exact sameAdmPorts_movedTaken.2

theorem movedTaken_queue {x : PlanIndex} (q : Port) : (movedTaken position reclaimed l x rate s).queue q = s.queue q :=
  congrArg (fun a : Pool => a.queues.get q) (touches_movedTaken.same .pool (by decide))

theorem subscribedMove_port_other (settled : s.Settled) (h : q ≠ p) :
    (subscribedMove p b i l charge position rate reclaimed s).port q =
      (s.port q).noticed (.window position (movedState s) .move) := by
  unfold subscribedMove
  rw [admittedEnd_port, admittedAnswer_port, if_neg (Ne.symm h), movedTaken_queue, movedTaken_port,
    arbitrated_raised (settled.rests q)]

theorem subscribedMove_port_same (settled : s.Settled) (attached : (s.port p).link = .attached)
    (asked : (s.port p).requests ≠ []) :
    (subscribedMove p b i l charge position rate reclaimed s).port p =
      { (s.port p).answered .ok (admittedFields i l charge rate position b.pids) with
        notices := enqueueNotice (.streamState i (some (.pending, l, charge)))
          (enqueueNotice (.window position (movedState s) .move) (s.port p).notices) } := by
  unfold subscribedMove
  rw [admittedEnd_port, admittedAnswer_port, if_pos rfl, movedTaken_queue, movedTaken_port,
    raised_responded_raised attached asked, arbitrated_responded (settled.rests p) attached asked]

theorem subscribedMove_mail :
    (subscribedMove p b i l charge position rate reclaimed s).mail = { s.mail with
      toAdm := (moveReports s position).filter (fun m => m.lane ≠ l) ++ [AdmMsg.state l .acquire]
      toStore := (subscribedMove p b i l charge position rate reclaimed s).mail.toStore } := by
  unfold subscribedMove
  rw [admittedEnd_mail]
  exact movedTaken_mail

theorem subscribedMove_toStore_other (h : k ≠ l) :
    (subscribedMove p b i l charge position rate reclaimed s).mail.toStore.get k =
      s.mail.toStore.get k ++ moveTells s position k := by
  unfold subscribedMove
  rw [admittedEnd_mail, movedTaken_toStore_other h]

theorem subscribedMove_toStore_same (kept : reclaimed = true → leaves s position l = false) :
    (subscribedMove p b i l charge position rate reclaimed s).mail.toStore.get l =
      s.mail.toStore.get l ++ (moveTells s position l ++
        ((if reclaimed = true then releaseNotice (s.lane l) else []) ++ [StoreMsg.lookup b.index])) := by
  unfold subscribedMove
  rw [admittedEnd_mail, movedTaken_toStore_same kept]

/-! ## The command -/

/-- The checks of a SUBSCRIBE with a move pass, and choose a lane that is FREE or counts as FREE, or that is reclaimed
(R125 to R128). -/
theorem checkSubscribe_taking {e : PlanEntry} (entry : s.entry b.index = some e)
    (fresh : ∀ j v, s.sub p j = some v → v.channel ≠ b.index) (free : s.sub p i = none)
    (lowest : ∀ j, j < i → s.sub p j ≠ none) (outside : fits s.fe.window e = false)
    (place : placement e s.sharedEntries = some position) (allowed : MoveAllowed s b.allowMove)
    (chosen : s.chooseLane b.index (some position) = some (.taking reclaimed l)) (rated : MemoRate s b.index rate)
    (room : (s.admPort p).committed + linkLoad (rate.getD (provisionalRate e.bandwidth)) ≤ (s.admPort p).capacity) :
    s.checkSubscribe p b =
      .accept i (.taking reclaimed l) (some position) rate (linkLoad (rate.getD (provisionalRate e.bandwidth))) := by
  have memo : s.subscribeRate b.index (.taking reclaimed l) = rate := by
    refine Eq.trans ?_ (memoRate_eq rated)
    cases reclaimed <;> rfl
  exact checkSubscribe_move entry (subOn_eq_none fresh) (freeId_of_least free lowest)
    (windowCheck_move outside place allowed) chosen memo room

theorem exec_subscribe_move {body : List Byte} (granted : s.granted p .subscribe = some body)
    (reads : SubscribeBody.read body = some b) (link : (s.port p).link = .attached)
    (passed : (markServed p s).checkSubscribe p b = .accept i (.taking reclaimed l) (some position) rate charge) :
    exec (.subscribe p) s =
      .next (subscribedMove p b i l charge position rate reclaimed (markServed p s)) := by
  have created : subscribe p body (markServed p s) =
      createSub p b i (.taking reclaimed l) (some position) rate charge (markServed p s) := by
    unfold subscribe
    rw [reads]
    simp only [passed]
  have run : exec (.subscribe p) s = .next (settle (subscribe p body (markServed p s))) := by
    simp [exec, execSubscribe, granted]
  rw [run, created, settle_createSub_move (s := markServed p s) link]
  rfl

/-- The lane that the statement names is the one the checks choose: it counts as FREE, or it is reclaimed (R127). -/
theorem chooseLane_taking {x : PlanIndex} (unheld : ∀ k, (s.lane k).state ≠ .free → (s.lane k).channel ≠ some x)
    (lane : ((s.lane l).state = .free ∨ leaves s position l = true) ∧
        (∀ k, k < l → ¬ ((s.lane k).state = .free ∨ leaves s position k = true)) ∨
      (∀ k, ¬ ((s.lane k).state = .free ∨ leaves s position k = true)) ∧ (s.admLane l).share = 0 ∧
        ∀ k, (s.admLane k).share = 0 → k ≠ l →
          s.lingerAge k < s.lingerAge l ∨ (s.lingerAge k = s.lingerAge l ∧ l < k)) :
    s.chooseLane x (some position) =
      some (.taking (decide ((s.lane l).state ≠ .free) && !leaves s position l) l) := by
  have none_holds : s.holdingLane x = none := holdingLane_eq_none.mpr unheld
  have never : ∀ k, ¬ ((s.lane k).state = .free ∨ leaves s position k = true) →
      s.countsFree (some position) k = false := fun k h => Bool.eq_false_iff.mpr fun c => h (countsFree_iff.mp c)
  rcases lane with ⟨free, lowest⟩ | ⟨full, unshared, oldest⟩
  · have kept : (decide ((s.lane l).state ≠ .free) && !leaves s position l) = false := by
      rcases free with h | h <;> simp [h]
    rw [kept]
    exact chooseLane_free none_holds (countsFree_iff.mpr free) fun k hk => never k (lowest k hk)
  · have taken : (decide ((s.lane l).state ≠ .free) && !leaves s position l) = true := by
      have busy := full l
      rw [not_or] at busy
      simp [busy]
    rw [taken]
    exact chooseLane_reclaim none_holds (fun k => never k (full k)) unshared oldest

/-- Settles O31: the checks pass with a move pending, and the move, the lane's assignment and the answer follow. -/
theorem subscribeMovesTheWindow : Obligations.SubscribeMovesTheWindow := by
  intro p body b e i l position rate s eligible outside place allowed unheld countsFree lane rated charge room reclaimed
  obtain ⟨⟨settled, attached, granted⟩, reads, entry, fresh, free, lowest⟩ := eligible
  have asked : (s.port p).requests ≠ [] := by
    unfold State.granted at granted
    split at granted
    · exact answered_requests_ne granted
    · cases granted
  have chosen : s.chooseLane b.index (some position) = some (.taking reclaimed l) :=
    chooseLane_taking unheld (lane.imp id fun ⟨full, unshared, _, oldest⟩ => ⟨full, unshared, oldest⟩)
  have passed : (markServed p s).checkSubscribe p b = .accept i (.taking reclaimed l) (some position) rate charge :=
    checkSubscribe_taking (s := markServed p s) entry fresh free lowest outside place allowed chosen rated room
  have kept : reclaimed = true → leaves s position l = false := fun h => by
    simpa [reclaimed] using (Bool.and_eq_true_iff.mp h).2
  refine ⟨_, exec_subscribe_move granted reads attached passed, subscribedMove_movedTo (s := markServed p s),
    subscribedMove_lane_same (s := markServed p s), subscribedMove_admLane_same (s := markServed p s),
    subscribedMove_admPorts (s := markServed p s), subscribedMove_lastServed (s := markServed p s),
    subscribedMove_port_same (s := markServed p s) settled attached asked,
    fun q hq => subscribedMove_port_other (s := markServed p s) settled hq,
    subscribedMove_mail (s := markServed p s),
    fun k hk => subscribedMove_toStore_other (s := markServed p s) hk,
    subscribedMove_toStore_same (s := markServed p s) kept, ?_⟩
  exact (((touches_markServed s p).mono (by decide)).trans touches_subscribedMove).eq_of_event

end Sys2Proof.Machine
end

section
/-! What the laws of the lanes rest on (Laws 1 and 2 of R117, the lane record of R60, parameter sets and memos of R62), and
the changes that leave all of it as it was (`Steady`). -/

namespace Sys2Proof.Machine

variable {s t u : State} {x y z : Lane} {l k : LaneId} {p q : Port} {i j : SubId}

/-! ## Lane records that none of the laws tells apart -/

/-- A lane waits for an answer of the store (R64, R83). -/
def Lane.Asking (x : Lane) : Prop := x.lookupPending = true ∨ 0 < x.restartsPending

/-- The states in which a lane may wait for an answer of the store: WAIT, and HOLDOFF(FEED) (R63, R83, R88). -/
def LaneState.Awaits (st : LaneState) : Prop := st = .acquire .wait ∨ st = .holdoff .feed

/-- A lane that waits for an answer stands where it may. -/
def Lane.WaitsRightly (x : Lane) : Prop := x.Asking → x.state.Awaits

/-- A lane record that follows another with channel, memo, parameter set, questions and linger as they were, FREE where the
other was, and with the rules of R60 and of its waiting kept. -/
structure Lane.Refits (x y : Lane) : Prop where
  channel : y.channel = x.channel
  memo : y.memo = x.memo
  params : y.params = x.params
  lookup : y.lookupPending = x.lookupPending
  restarts : y.restartsPending = x.restartsPending
  stale : y.staleAnswers = x.staleAnswers
  linger : y.lingerStart = x.lingerStart
  free : y.state = .free ↔ x.state = .free
  law : LaneLaw x → LaneLaw y
  waits : x.WaitsRightly → y.WaitsRightly

theorem Lane.Refits.refl (x : Lane) : Lane.Refits x x := ⟨rfl, rfl, rfl, rfl, rfl, rfl, rfl, Iff.rfl, id, id⟩

theorem Lane.Refits.trans (h : Lane.Refits x y) (k : Lane.Refits y z) : Lane.Refits x z :=
  ⟨k.channel.trans h.channel, k.memo.trans h.memo, k.params.trans h.params, k.lookup.trans h.lookup,
    k.restarts.trans h.restarts, k.stale.trans h.stale, k.linger.trans h.linger, k.free.trans h.free, k.law ∘ h.law,
    k.waits ∘ h.waits⟩

/-! ## States that none of the laws tells apart -/

/-- What Laws 1 and 2 say of a subscription: its channel and its lane. -/
def Sub.place (u : Sub) : PlanIndex × LaneId := (u.channel, u.lane)

/-- Two states of which the second has lane records that follow the first's, and everything else that the laws of the lanes
speak of as it was: plan entries, memos but for their pins and order, the messages between lanes and store, share counts,
and the subscriptions' channels and lanes. -/
structure Steady (s t : State) : Prop where
  lanes : ∀ l, Lane.Refits (s.lane l) (t.lane l)
  entries : t.plan.entries = s.plan.entries
  memos : ∀ m, (t.memo m).tag = (s.memo m).tag ∧ (t.memo m).fields = (s.memo m).fields
  inUse : t.store.inUse = s.store.inUse
  toStore : t.mail.toStore = s.mail.toStore
  toLane : t.mail.toLane = s.mail.toLane
  shares : ∀ l, (t.admLane l).share = (s.admLane l).share
  subs : ∀ p i, (t.sub p i).map Sub.place = (s.sub p i).map Sub.place

theorem Steady.refl (s : State) : Steady s s :=
  ⟨fun _ => .refl _, rfl, fun _ => ⟨rfl, rfl⟩, rfl, rfl, rfl, fun _ => rfl, fun _ _ => rfl⟩

theorem Steady.trans (h : Steady s t) (k : Steady t u) : Steady s u where
  lanes l := (h.lanes l).trans (k.lanes l)
  entries := k.entries.trans h.entries
  memos m := ⟨(k.memos m).1.trans (h.memos m).1, (k.memos m).2.trans (h.memos m).2⟩
  inUse := k.inUse.trans h.inUse
  toStore := k.toStore.trans h.toStore
  toLane := k.toLane.trans h.toLane
  shares l := (k.shares l).trans (h.shares l)
  subs p i := (k.subs p i).trans (h.subs p i)

theorem Steady.ite {c : Prop} [Decidable c] (h : Steady s t) (k : Steady s u) : Steady s (if c then t else u) := by
  split <;> assumption

theorem Steady.forEach {α : Type} {f : α → State → State} (h : ∀ x t, Steady t (f x t)) (items : List α) (s : State) :
    Steady s (forEach items f s) :=
  forEach_keeps (P := Steady s) items (fun x _ t ht => ht.trans (h x t)) (Steady.refl s)

/-- The parts that no law of the lanes speaks of. -/
def asideParts : List Part := [.now, .fe, .pool, .ports, .log, .slotPicks, .pending]

theorem Touches.steady {parts : List Part} (h : Touches parts s t) (sub : ∀ p ∈ parts, p ∈ asideParts) :
    Steady s t := by
  have aside := h.mono sub
  have lanes : t.lanes = s.lanes := aside.same .lanes (by decide)
  have plan : t.plan = s.plan := aside.same .plan (by decide)
  have store : t.store = s.store := aside.same .store (by decide)
  have adm : t.adm = s.adm := aside.same .adm (by decide)
  have mail : t.mail = s.mail := aside.same .mail (by decide)
  refine ⟨fun l => ?_, by rw [plan], fun m => ?_, by rw [store], by rw [mail], by rw [mail], fun l => ?_, fun p i => ?_⟩
  · unfold State.lane; rw [lanes]; exact .refl _
  · unfold State.memo; rw [store]; exact ⟨rfl, rfl⟩
  · unfold State.admLane; rw [adm]
  · unfold State.sub State.admPort; rw [adm]

/-! ## The updates of Machine/State.lean -/

theorem steady_setLane (h : Lane.Refits (s.lane l) y) : Steady s (s.setLane l y) where
  lanes k := by
    rw [State.setLane_lane]
    split
    · next e => rw [← e]; exact h
    · exact .refl _
  entries := rfl
  memos _ := ⟨rfl, rfl⟩
  inUse := rfl
  toStore := rfl
  toLane := rfl
  shares _ := rfl
  subs _ _ := rfl

theorem steady_modLane {f : Lane → Lane} (h : Lane.Refits (s.lane l) (f (s.lane l))) : Steady s (s.modLane l f) :=
  steady_setLane h

theorem steady_setFe (f : FrontEnd) : Steady s (s.setFe f) := (touches_setFe s f).steady (by decide)
theorem steady_setLog (x : FaultLog) : Steady s (s.setLog x) := (touches_setLog s x).steady (by decide)
theorem steady_setPort (r : PortRec) : Steady s (s.setPort p r) := (touches_setPort s p r).steady (by decide)
theorem steady_setPool (x : Pool) : Steady s (s.setPool x) := (touches_setPool s x).steady (by decide)

theorem steady_setPlan {b : PlanBlock} (h : b.entries = s.plan.entries := by rfl) : Steady s (s.setPlan b) :=
  { Steady.refl s with entries := h }

/-- A mail in which the messages between lanes and store wait as before. -/
theorem steady_setMail {m : Mail} (toStore : m.toStore = s.mail.toStore := by rfl)
    (toLane : m.toLane = s.mail.toLane := by rfl) :
    Steady s (s.setMail m) :=
  { Steady.refl s with toStore := toStore, toLane := toLane }

theorem steady_setAdmPort {a : AdmPort} (h : a.subs = (s.admPort p).subs) : Steady s (s.setAdmPort p a) :=
  { Steady.refl s with
    shares := fun _ => rfl
    subs := fun q j => by
      unfold State.sub
      rw [State.setAdmPort_admPort]
      split
      · next e => rw [h, e]
      · rfl }

theorem steady_modAdmPort {f : AdmPort → AdmPort} (h : ∀ a, (f a).subs = a.subs := by exact fun _ => rfl) :
    Steady s (s.modAdmPort p f) :=
  steady_setAdmPort (h _)

theorem steady_modAdmLane {f : AdmLane → AdmLane} (h : ∀ a, (f a).share = a.share := by exact fun _ => rfl) :
    Steady s (s.modAdmLane l f) :=
  { Steady.refl s with
    shares := fun k => by
      unfold State.modAdmLane
      rw [State.setAdmLane_admLane]
      split
      · next e => rw [h, e]
      · rfl }

/-- A subscription record that keeps its channel and lane. -/
theorem steady_setSub {v w : Sub} (h : s.sub p i = some v) (same : w.place = v.place := by rfl) :
    Steady s (s.setSub p i (some w)) :=
  { Steady.refl s with
    shares := fun _ => rfl
    subs := fun q j => by
      rw [State.setSub_sub]
      split
      · next e => rw [← e.1, ← e.2, h, Option.map_some, Option.map_some, same]
      · rfl }

/-- A memo that keeps its tag and its fields. -/
theorem steady_setMemo {m : MemoId} {a : Memo} (tag : a.tag = (s.memo m).tag := by rfl)
    (fields : a.fields = (s.memo m).fields := by rfl) :
    Steady s (s.setMemo m a) :=
  { Steady.refl s with
    memos := fun k => by
      rw [State.setMemo_memo]
      split
      · next e => rw [← e]; exact ⟨tag, fields⟩
      · exact ⟨rfl, rfl⟩ }

theorem steady_setOrder (order : List MemoId) : Steady s (s.setStore { s.store with order }) :=
  { Steady.refl s with memos := fun _ => ⟨rfl, rfl⟩ }

/-! ## The shared operations -/

theorem steady_report (o : Occurrence) : Steady s (report o s) := steady_setMail
theorem steady_tellAdmission (m : AdmMsg) : Steady s (tellAdmission m s) := steady_setMail
theorem steady_raiseNotice (n : Notice) (p : Port) : Steady s (raiseNotice n p s) :=
  (touches_raiseNotice s n p).steady (by decide)
theorem steady_raiseNoticeAll (n : Notice) : Steady s (raiseNoticeAll n s) :=
  (touches_raiseNoticeAll s n).steady (by decide)
theorem steady_settle : Steady s (settle s) := (touches_settle s).steady (by decide)
theorem steady_respond (p : Port) (status : Status) (fields : List Byte) : Steady s (respond p status fields s) :=
  (touches_respond s p status fields).steady (by decide)
theorem steady_steer : Steady s (steer s) := (touches_steer s).steady (by decide)
theorem steady_retarget (before : Target) : Steady s (retarget before s) := (touches_retarget s before).steady (by decide)
theorem steady_dropReports (l : LaneId) : Steady s (dropReports l s) := steady_setMail
theorem steady_recordFree (l : LaneId) : Steady s (recordFree l s) := steady_modAdmLane
theorem steady_markServed (p : Port) : Steady s (markServed p s) :=
  { Steady.refl s with shares := fun _ => rfl }
theorem steady_makeRecent (m : MemoId) : Steady s (makeRecent m s) := steady_setOrder _
theorem steady_setPin (pinned : Bool) (m : MemoId) : Steady s (setPin pinned m s) := steady_setMemo
theorem steady_clearPins : Steady s (clearPins s) := Steady.forEach (fun m _ => steady_setPin false m) _ s

theorem Steady.settle (h : Steady s t) : Steady s (settle t) := h.trans steady_settle

theorem Steady.respond (h : Steady s t) (p : Port) (status : Status) (fields : List Byte) :
    Steady s (respond p status fields t) :=
  h.trans (steady_respond p status fields)

/-! ## The admission controller's operations (chapter 6) -/

theorem steady_rederive (always : Bool) (p : Port) (i : SubId) : Steady s (rederive always p i s) := by
  unfold rederive
  split
  · exact Steady.refl s
  · next h =>
    split
    · exact Steady.refl s
    · exact Steady.ite ((steady_setSub h).trans (steady_raiseNotice _ p)) (steady_setSub h)

theorem steady_rederiveLane (l : LaneId) : Steady s (rederiveLane l s) :=
  Steady.forEach (fun (k : Port × SubId) _ => steady_rederive false k.1 k.2) _ s

theorem steady_rederivePort (always : Bool) (p : Port) : Steady s (rederivePort always p s) :=
  Steady.forEach (fun i _ => steady_rederive always p i) _ s

theorem modAdmPort_sub {f : AdmPort → AdmPort} (h : ∀ a, (f a).subs = a.subs := by exact fun _ => rfl) :
    (s.modAdmPort p f).sub q j = s.sub q j := by
  unfold State.sub State.modAdmPort
  rw [State.setAdmPort_admPort]
  split
  · next e => rw [h, e]
  · rfl

theorem steady_readmit (p : Port) : Steady s (readmit p s) := by
  refine Steady.forEach (fun i t => ?_) _ s
  unfold readmitOne
  split
  · exact Steady.refl t
  · next v h =>
    refine Steady.ite ?_ (Steady.refl t)
    simp only
    generalize hw : t.modAdmPort p _ = w
    have charged : Steady t w := hw ▸ steady_modAdmPort
    have found : w.sub p i = some v := by
      rw [← hw, modAdmPort_sub, h]
    exact (charged.trans (steady_setSub found)).trans (steady_rederive false p i)

end Sys2Proof.Machine
end

section
/-! Operations and commands that leave what the laws of the lanes rest on as it was: those of the admission controller, the
pool, the ports, the log and the readers (chapters 6 to 9). -/

namespace Sys2Proof.Machine

variable {s t u : State} {x y z : Lane} {l k : LaneId} {p q : Port} {i j : SubId}

/-! ## Charges and reports (R123, R134, R141) -/

/-- Capacity and load of a port change, or not. -/
theorem steady_chargeIf (c : Prop) [Decidable c] {f : AdmPort → AdmPort} (h : ∀ a, (f a).subs = a.subs := by exact fun _ => rfl) :
    Steady s (if c then s.modAdmPort p f else s) ∧
      (if c then s.modAdmPort p f else s).sub q j = s.sub q j := by
  split
  · exact ⟨steady_modAdmPort h, modAdmPort_sub h⟩
  · exact ⟨Steady.refl s, rfl⟩

theorem steady_recharge (l : LaneId) (p : Port) (i : SubId) : Steady s (recharge l p i s) := by
  unfold recharge
  split
  · exact Steady.refl s
  · next v h =>
    split
    · simp only
      rw [← ite_not (v.overload = true)]
      generalize hw : (if ¬ v.overload = true then s.modAdmPort p _ else s) = w
      obtain ⟨off, sub⟩ : Steady s w ∧ w.sub p i = s.sub p i := hw ▸ steady_chargeIf _
      generalize hz : (if (w.admPort p).fits _ = true then w.modAdmPort p _ else w) = z
      obtain ⟨on, sub'⟩ : Steady w z ∧ z.sub p i = w.sub p i := hz ▸ steady_chargeIf _
      generalize hr : z.setSub p i _ = r
      have stored : Steady s r := (off.trans on).trans (hr ▸ steady_setSub ((sub'.trans sub).trans h))
      refine (stored.trans ?_).trans (Steady.ite (steady_rederive true p i) (Steady.refl _))
      exact Steady.ite (steady_report _) (Steady.refl _)
    · exact Steady.refl s

theorem steady_ratePass (l : LaneId) : Steady s (ratePass l s) := by
  refine Steady.forEach (fun p t => ?_) _ s
  exact (Steady.forEach (fun i _ => steady_recharge l p i) _ t).trans (Steady.ite (steady_readmit p) (Steady.refl _))

theorem steady_takeRate (l : LaneId) (rate : Option Nat) : Steady s (takeRate l rate s) :=
  Steady.ite (Steady.refl s) (Steady.trans steady_modAdmLane (steady_ratePass l))

theorem steady_takeReport (m : AdmMsg) : Steady s (takeReport m s) := by
  have popped : Steady s (popAdmission s) := steady_setMail
  unfold takeReport
  split
  · exact (popped.trans (steady_takeRate _ _)).settle
  · exact (popped.trans (Steady.trans steady_modAdmLane (steady_rederiveLane _))).settle
  · exact popped.trans (steady_recordFree _)

theorem steady_takeReports : Steady s (takeReports s) := Steady.forEach (fun m _ => steady_takeReport m) _ s

theorem steady_restoreDefaults (p : Port) : Steady s (restoreDefaults p s) :=
  Steady.trans steady_modAdmPort (steady_setPool _)

/-! ## The packet pool (chapter 7) -/

theorem steady_emptyQueue (p : Port) : Steady s (emptyQueue p s) := (touches_emptyQueue s p).steady (by decide)
theorem steady_emptyUnsent (p : Port) : Steady s (emptyUnsent p s) := (touches_emptyUnsent s p).steady (by decide)

theorem steady_modSub {f : Sub → Sub} (h : ∀ v, (f v).place = v.place := by exact fun _ => rfl) : Steady s (s.modSub p i f) := by
  unfold State.modSub
  split
  · exact Steady.refl s
  · next hv => exact steady_setSub hv (h _)

theorem steady_countOverflow (k : Port × SubId) : Steady s (countOverflow k s) := steady_modSub

theorem steady_overflow (l : LaneId) (k : Port × SubId) : Steady s (overflow l k s) :=
  (steady_countOverflow k).trans (steady_report _)

theorem steady_appendEntry (l : LaneId) (slot : SlotId) (marked : Bool) (k : Port × SubId) :
    Steady s (appendEntry l slot marked k s) := by
  unfold appendEntry
  split
  · exact Steady.refl s
  · next h =>
    have queued : ∀ es, Steady s (s.setQueue k.1 es) :=
      fun es => (touches_setQueue s k.1 es).steady (by decide)
    exact (queued _).trans (steady_setSub h)

theorem steady_storePacket (l : LaneId) (m : PacketMsg) (keys : List (Port × SubId)) :
    Steady s (storePacket l m keys s) := by
  unfold storePacket
  simp only
  split
  · exact (Steady.forEach (fun k _ => steady_countOverflow k) _ s).trans (steady_report _)
  · next slot _ =>
    have stored : ∀ x : Slot, Steady s { s.setSlot slot (some x) with slotPicks := s.slotPicks + 1 } := fun x =>
      Touches.steady (parts := [.pool, .slotPicks]) (fun part h => by
        cases part <;> first | rfl | exact absurd (by decide) h) (by decide)
    exact (stored _).trans (Steady.forEach (fun k _ => steady_appendEntry l _ _ k) _ _)

theorem steady_takePacket (l : LaneId) (m : PacketMsg) : Steady s (takePacket l m s) := by
  have counted : Steady s (forEach (s.keysWith l m .errorDropped .errorDropped) countErrorDrop s) :=
    Steady.forEach (fun k _ => steady_modSub) _ s
  have full := counted.trans (Steady.forEach (fun k _ => steady_overflow l k)
    ((s.accepting l m).filter (fun k => !s.hasRoom k.1)) _)
  exact Steady.ite (Steady.refl s) (Steady.ite full (full.trans (steady_storePacket l m _)))

theorem steady_applyQuota (p : Port) (quota : Nat) : Steady s (applyQuota p quota s) := by
  refine (steady_setPool _).trans (Steady.forEach (fun e t => ?_) _ _)
  exact ((touches_dropRef t e.slot).steady (by decide)).trans (steady_countOverflow _)

/-! ## The ports and the log (chapters 8 and 9) -/

theorem steady_examineHead (p : Port) : Steady s (examineHead p s) := by
  unfold examineHead
  split
  · exact Steady.refl s
  · refine Steady.ite (Steady.refl s) ?_
    split
    · exact steady_respond p _ _
    · exact Steady.ite ((steady_respond p _ _).trans (steady_report _))
        (Steady.ite (steady_respond p _ _) (steady_setPort _))

theorem steady_arrive (p : Port) (kind tag : Byte) (body : List Byte) : Steady s (arrive p kind tag body s) :=
  Steady.ite ((steady_setPort _).trans (steady_examineHead p)) (Steady.ite (steady_setPort _) (steady_setPort _))

theorem steady_readUplink (p : Port) (fuel : Nat) (bytes : List Byte) (s : State) :
    Steady s (readUplink p fuel bytes s) := by
  induction fuel generalizing bytes s with
  | zero => exact steady_setPort _
  | succ fuel ih =>
    unfold readUplink
    split
    · exact steady_setPort _
    · have failed : Steady s (failCheck p s) := (steady_setPort _).trans (steady_report _)
      exact failed.trans (ih _ _)
    · exact (steady_arrive p _ _ _).trans (ih _ _)

theorem steady_responseSent (p : Port) : Steady s (responseSent p s) := by
  unfold responseSent
  simp only
  split
  · exact steady_setPort _
  · exact Steady.ite (steady_setPort _) ((steady_setPort _).trans (steady_examineHead p))

theorem steady_packetSent (p : Port) : Steady s (packetSent p s) := by
  unfold packetSent
  simp only
  split
  · exact steady_setPort _
  · exact ((steady_setPort _).trans (steady_setPool _)).trans ((touches_dropRef _ _).steady (by decide))

theorem steady_severitySet (p : Port) (body : List Byte) : Steady s (severitySet p body s) := by
  unfold severitySet
  split
  · exact Steady.ite (steady_respond p _ _) ((steady_setLog _).respond p _ _)
  · exact steady_respond p _ _

theorem steady_logRead (p : Port) (body : List Byte) : Steady s (logRead p body s) := by
  unfold logRead
  split <;> exact steady_respond p _ _

theorem steady_logClear (p : Port) (body : List Byte) : Steady s (logClear p body s) := by
  unfold logClear
  split
  · exact steady_respond p _ _
  · exact (steady_setLog _).respond p _ _

/-! ## Requests that read, and FILTER_SET -/

theorem steady_statusSubscription (p : Port) (body : List Byte) : Steady s (statusSubscription p body s) := by
  unfold statusSubscription
  split
  · split <;> exact steady_respond p _ _
  · exact steady_respond p _ _

theorem steady_statusLane (p : Port) (body : List Byte) : Steady s (statusLane p body s) := by
  unfold statusLane
  split <;> exact steady_respond p _ _

theorem steady_statusPort (p : Port) (body : List Byte) : Steady s (statusPort p body s) := by
  unfold statusPort
  split <;> exact steady_respond p _ _

theorem steady_planRead (p : Port) (body : List Byte) : Steady s (planRead p body s) := by
  unfold planRead
  split <;> exact steady_respond p _ _

theorem steady_memoRead (p : Port) (body : List Byte) : Steady s (memoRead p body s) := by
  unfold memoRead
  split <;> exact steady_respond p _ _

theorem steady_memoUnpin (p : Port) (body : List Byte) : Steady s (memoUnpin p body s) := by
  unfold memoUnpin
  split
  · exact steady_respond p _ _
  · exact ((steady_setPin false _).trans (steady_makeRecent _)).respond p _ _

theorem steady_filterSet (p : Port) (body : List Byte) : Steady s (filterSet p body s) := by
  unfold filterSet
  split
  · split
    · exact steady_respond p _ _
    · next h => exact (steady_setSub h).respond p _ _
  · exact steady_respond p _ _

/-! ## The commands -/

/-- The commands that leave what the laws of the lanes rest on as it was, whatever the state. -/
def isSteady : Instr → Bool
  | .planRead _ | .planLock _ | .memoUnpin _ | .memoReleaseAll _ | .memoRead _ | .memoSnapshot _ | .filterSet _
  | .severitySet _ | .logRead _ | .logClear _ | .statusSubscription _ | .statusLane _ | .statusFrontEnd _
  | .statusPort _ | .uplinkFrame _ _ | .responseSendComplete _ | .noticeSendComplete _ | .sendComplete _
  | .alertPulseEnd _ | .idleWindowSettled | .minimumResidencyEnd | .lastMoveStampDrop | .clipEvent | .quietTimeExpiry
  | .lastRestoreStampDrop | .rateReport _ | .laneStateChange _ | .changeToFree _ | .packetEvent _
  | .logOccurrence _ => true
  | _ => false

theorem exec_steady {c : Instr} (hc : isSteady c = true) : Yields (Steady s) (exec c s) := by
  have same : Steady s s := Steady.refl s
  cases c with
  | planRead p =>
    simp only [exec, execPlanRead]
    split
    exacts [same, (steady_planRead p _).settle]
  | planLock p =>
    simp only [exec, execPlanLock]
    split
    exacts [same, (Steady.respond steady_setPlan p _ _).settle]
  | memoUnpin p =>
    simp only [exec, execMemoUnpin]
    split
    exacts [same, (steady_memoUnpin p _).settle]
  | memoReleaseAll p =>
    simp only [exec, execMemoReleaseAll]
    split
    exacts [same, (steady_clearPins.respond p _ _).settle]
  | memoRead p =>
    simp only [exec, execMemoRead]
    split
    exacts [same, (steady_memoRead p _).settle]
  | memoSnapshot p =>
    simp only [exec, execMemoSnapshot]
    split
    exacts [same, (steady_respond p _ _).settle]
  | filterSet p =>
    simp only [exec, execFilterSet]
    split
    exacts [same, ((steady_markServed p).trans (steady_filterSet p _)).settle]
  | severitySet p =>
    simp only [exec, execSeveritySet]
    split
    exacts [same, (steady_severitySet p _).settle]
  | logRead p =>
    simp only [exec, execLogRead]
    split
    exacts [same, (steady_logRead p _).settle]
  | logClear p =>
    simp only [exec, execLogClear]
    split
    exacts [same, (steady_logClear p _).settle]
  | statusSubscription p =>
    simp only [exec, execStatusSubscription]
    split
    exacts [same, (steady_statusSubscription p _).settle]
  | statusLane p =>
    simp only [exec, execStatusLane]
    split
    exacts [same, (steady_statusLane p _).settle]
  | statusFrontEnd p =>
    simp only [exec, execStatusFrontEnd]
    split
    exacts [same, (steady_respond p _ _).settle]
  | statusPort p =>
    simp only [exec, execStatusPort]
    split
    exacts [same, (steady_statusPort p _).settle]
  | uplinkFrame p bytes => exact yields_ite (fun _ => (steady_readUplink p _ _ s).settle) same
  | responseSendComplete p => exact yields_ite (fun _ => (steady_responseSent p).settle) same
  | noticeSendComplete p => exact yields_ite (fun _ => Steady.settle (steady_setPort _)) same
  | sendComplete p => exact yields_ite (fun _ => (steady_packetSent p).settle) same
  | alertPulseEnd p => exact yields_ite (fun _ => steady_setPort _) same
  | idleWindowSettled | lastMoveStampDrop | quietTimeExpiry | lastRestoreStampDrop =>
    exact yields_ite (fun _ => steady_setFe _) same
  | minimumResidencyEnd => exact yields_ite (fun _ => (steady_setFe _).trans steady_steer) same
  | clipEvent => exact yields_ite (fun _ => (steady_setFe _).trans (steady_report _)) same
  | rateReport l =>
    simp only [exec, execRateReport]
    split
    exacts [yields_ite (fun _ => steady_takeReport _) same, same]
  | laneStateChange l =>
    simp only [exec, execLaneStateChange]
    split
    exacts [yields_ite (fun _ => steady_takeReport _) same, same]
  | changeToFree l =>
    simp only [exec, execChangeToFree]
    split
    exacts [yields_ite (fun _ => steady_takeReport _) same, same]
  | packetEvent l =>
    simp only [exec, execPacketEvent]
    split
    · exact same
    · have popped : Steady s (popPacket l s) := steady_setMail
      exact (popped.trans (steady_takePacket l _)).settle
  | logOccurrence place =>
    simp only [exec, execLogOccurrence]
    split
    · exact same
    · exact (Steady.trans steady_setMail ((touches_takeOccurrence _ _).steady (by decide))).settle
  | _ => cases hc

end Sys2Proof.Machine
end

section
/-! What the lanes' own operations make of a lane record, with the presence and range rules of R60 (chapter 4). -/

namespace Sys2Proof.Machine

variable {s t u : State} {x y z : Lane} {l k : LaneId} {p q : Port} {i j : SubId}

/-! ## The rules of the lane record (R60) -/

/-- A lane that has entered a state: the state's own timer runs and no other, and no read is pending (R60). -/
def Lane.entered (x : Lane) (st : LaneState) (attempts : Nat) (time : Time) : Lane :=
  { x.stopTimers with
    state := st, attempts
    stageTimer := if st.runsStage = true then some time else none
    recheckTimer := if st = .locked then some time else none
    coastTimer := if st = .coast then some time else none
    retryTimer := if st.runsRetry = true then some time else none }

theorem isSome_ite_some {c : Prop} [Decidable c] {α : Type} (a : α) :
    (if c then some a else none).isSome ↔ c := by
  split <;> simp [*]

theorem laneLaw_entered {st : LaneState} {attempts : Nat} (time : Time) (h : LaneLaw x) (busy : x.state ≠ .free)
    (enters : st ≠ .free) (bound : attempts ≤ 3) (acquiring : st.kind = .acquire → attempts ≤ 2) :
    LaneLaw (x.entered st attempts time) where
  stageTimer := isSome_ite_some time
  recheckTimer := isSome_ite_some time
  readPending := fun e => nomatch e
  coastTimer := isSome_ite_some time
  retryTimer := isSome_ite_some time
  channel := h.channel.trans ⟨fun _ => enters, fun _ => busy⟩
  whenFree := fun e => absurd e enters
  attempts := bound
  acquiring := acquiring
  window := h.window
  counters := h.counters

theorem Lane.Refits.entered {st : LaneState} (time : Time) (busy : x.state ≠ .free) (enters : st ≠ .free)
    (moves : st.kind ≠ .acquire) (waits : x.Asking → x.state.Awaits → st.Awaits) :
    Lane.Refits x (x.entered st x.attempts time) :=
  ⟨rfl, rfl, rfl, rfl, rfl, rfl, rfl, ⟨fun e => absurd e enters, fun e => absurd e busy⟩,
    fun h => laneLaw_entered time h busy enters h.attempts fun e => absurd e moves, fun h asks => waits asks (h asks)⟩

/-- A lane in ACQUIRE keeps its rules in a timed stage. -/
theorem laneLaw_stage {st : Stage} {attempts : Nat} {time : Time} {tuned : Option Int} (h : LaneLaw x)
    (acquires : x.state.kind = .acquire) (timed : st.timed = true) (bound : attempts ≤ 2) :
    LaneLaw { x with state := .acquire st, stageTimer := some time, tuned := tuned, attempts := attempts } := by
  have other : ∀ st', x.state = st' → st'.kind = .acquire := fun st' e => e ▸ acquires
  have no {α : Type} {o : Option α} {c : Prop} (e : o.isSome ↔ c) (n : ¬ c) : o = none :=
    Option.not_isSome_iff_eq_none.mp fun some => n (e.mp some)
  have retry : ¬ x.state.runsRetry = true := by
    cases hs : x.state with
    | holdoff reason => exact nomatch other _ hs
    | _ => simp [LaneState.runsRetry]
  exact {
    stageTimer := by simp [LaneState.runsStage, timed]
    recheckTimer := by simp [no h.recheckTimer fun e => nomatch other _ e]
    readPending := fun e => nomatch other _ (h.readPending e)
    coastTimer := by simp [no h.coastTimer fun e => nomatch other _ e]
    retryTimer := by simp [no h.retryTimer retry, LaneState.runsRetry]
    channel := h.channel.trans ⟨fun _ => by simp, fun _ e => nomatch other _ e⟩
    whenFree := fun e => nomatch e
    attempts := bound.trans (by decide)
    acquiring := fun _ => bound
    window := h.window
    counters := h.counters }

theorem LaneState.not_awaits_of_demodulates {st : LaneState} (h : st.demodulates = true) : ¬ st.Awaits := by
  rintro (rfl | rfl) <;> cases h

/-- A lane that demodulates waits for no answer of the store. -/
theorem Lane.WaitsRightly.not_asking (h : x.WaitsRightly) (d : x.state.demodulates = true) : ¬ x.Asking :=
  fun asks => LaneState.not_awaits_of_demodulates d (h asks)

/-- A lane that demodulates in ACQUIRE goes to a timed stage. -/
theorem refits_stage {st : Stage} {attempts : Nat} {time : Time} {tuned : Option Int}
    (demodulates : x.state.demodulates = true) (acquires : x.state.kind = .acquire) (timed : st.timed = true)
    (bound : LaneLaw x → attempts ≤ 2) :
    Lane.Refits x { x with state := .acquire st, stageTimer := some time, tuned := tuned, attempts := attempts } :=
  ⟨rfl, rfl, rfl, rfl, rfl, rfl, rfl, ⟨nofun, fun e => absurd e (LaneState.busy_of_demodulates demodulates)⟩,
    fun h => laneLaw_stage h acquires timed (bound h), fun h asks => absurd asks (h.not_asking demodulates)⟩

/-- Leaving ACQUIRE(WAIT), a lane's questions are answered (R66). -/
theorem refits_leftWait (s : State) (x : Lane) : Lane.Refits x (s.leftWait x) := by
  by_cases h : x.ready ∧ s.fe.usable = true
  · rw [State.leftWait_of_ready h.1 h.2]
    obtain ⟨⟨waits, answered, none⟩, -⟩ := h
    have kind : x.state.kind = .acquire := by rw [waits]; rfl
    exact ⟨rfl, rfl, rfl, rfl, rfl, rfl, rfl, ⟨nofun, fun e => by rw [waits] at e; cases e⟩,
      fun law => laneLaw_stage law kind rfl (law.acquiring kind),
      fun _ asks => by rcases asks with a | a <;> simp_all⟩
  · rw [State.leftWait_of_not h]
    exact .refl x

/-- Records that differ only in what R60's rules read alike. -/
theorem Lane.Refits.of_state (state : y.state = x.state)
    (same : y.channel = x.channel ∧ y.memo = x.memo ∧ y.params = x.params ∧ y.lookupPending = x.lookupPending ∧
      y.restartsPending = x.restartsPending ∧ y.staleAnswers = x.staleAnswers ∧ y.lingerStart = x.lingerStart)
    (law : LaneLaw x → LaneLaw y) : Lane.Refits x y := by
  obtain ⟨channel, memo, params, lookup, restarts, stale, linger⟩ := same
  refine ⟨channel, memo, params, lookup, restarts, stale, linger, by rw [state], law, fun h asks => ?_⟩
  rw [state]
  refine h ?_
  unfold Lane.Asking at asks ⊢
  rwa [lookup, restarts] at asks

/-- UNSETTLED of a lane that is not FREE, with what it makes of the recheck timer (R77, R80). -/
def Lane.unsettledAt (x : Lane) (now : Time) : Lane :=
  { x with
    unsettled := some (later now unsettledMs)
    recheckTimer :=
      match x.state, x.recheckTimer with
      | .locked, some t =>
        if recheckUnsettledMs < msLeft now t then some (later now recheckUnsettledMs) else some t
      | _, t => t }

theorem setUnsettled_eq (l : LaneId) (s : State) : setUnsettled l s = s.setLane l ((s.lane l).unsettledAt s.now) := rfl

theorem isSome_recheckTimer_unsettledAt (x : Lane) (now : Time) :
    (x.unsettledAt now).recheckTimer.isSome = x.recheckTimer.isSome := by
  unfold Lane.unsettledAt
  simp only
  split
  · next h => split <;> simp [h]
  · rfl

theorem laneLaw_unsettledAt (now : Time) (busy : x.state ≠ .free) (h : LaneLaw x) : LaneLaw (x.unsettledAt now) :=
  { h with
    recheckTimer := by rw [isSome_recheckTimer_unsettledAt]; exact h.recheckTimer
    whenFree := fun e => absurd e busy }

theorem refits_unsettledAt (now : Time) (busy : x.state ≠ .free) : Lane.Refits x (x.unsettledAt now) :=
  .of_state rfl ⟨rfl, rfl, rfl, rfl, rfl, rfl, rfl⟩ (laneLaw_unsettledAt now busy)

/-! ### Packets (R79, R80) -/

theorem satAdd_le (n k : Nat) : satAdd n k ≤ 4294967295 := Nat.min_le_right ..

theorem refits_count (outcome : PacketOutcome) : Lane.Refits x (x.count outcome) := by
  cases outcome with
  | clean =>
    exact .of_state rfl ⟨rfl, rfl, rfl, rfl, rfl, rfl, rfl⟩ fun h =>
      { h with counters := ⟨satAdd_le .., h.counters.2⟩ }
  | corrected n =>
    exact .of_state rfl ⟨rfl, rfl, rfl, rfl, rfl, rfl, rfl⟩ fun h =>
      { h with counters := ⟨satAdd_le .., satAdd_le .., satAdd_le .., h.counters.2.2.2⟩ }
  | uncorrectable =>
    exact .of_state rfl ⟨rfl, rfl, rfl, rfl, rfl, rfl, rfl⟩ fun h =>
      { h with counters := ⟨satAdd_le .., h.counters.2.1, h.counters.2.2.1, satAdd_le ..⟩ }

theorem refits_addToWindow (outcome : PacketOutcome) (busy : x.state ≠ .free) :
    Lane.Refits x (x.addToWindow outcome) := by
  have bad : (if outcome = .uncorrectable then 1 else 0) ≤ 1 := by split <;> decide
  unfold Lane.addToWindow
  simp only
  split
  · refine .of_state rfl ⟨rfl, rfl, rfl, rfl, rfl, rfl, rfl⟩ fun h => { h with window := ?_ }
    have := h.window
    exact ⟨by simp only; omega, by simp only; omega⟩
  · exact .of_state rfl ⟨rfl, rfl, rfl, rfl, rfl, rfl, rfl⟩ fun h =>
      { h with whenFree := fun e => absurd e busy, window := ⟨Nat.zero_le _, Nat.le_refl _⟩ }

theorem refits_packet (outcome : PacketOutcome) (busy : x.state ≠ .free) :
    Lane.Refits x ((x.count outcome).addToWindow outcome) :=
  (refits_count outcome).trans (refits_addToWindow outcome fun e => busy ((refits_count outcome).free.mp e))

/-! ## Steady operations of the lanes -/

theorem steady_leaveWait (l : LaneId) : Steady s (leaveWait l s) := by
  rw [leaveWait_eq]
  exact steady_setLane (refits_leftWait s _)

theorem steady_allLeaveWait : Steady s (allLeaveWait s) := Steady.forEach (fun l _ => steady_leaveWait l) _ s

theorem steady_feedHoldoff (l : LaneId) : Steady s (feedHoldoff l s) := by
  have held : (s.lane l).state ≠ .free →
      Steady s (s.modLane l fun x => { x.stopTimers with state := .holdoff .feed }) := fun busy =>
    steady_setLane (.entered (st := .holdoff .feed) s.now busy nofun nofun fun _ _ => .inr rfl)
  unfold feedHoldoff
  simp only
  split
  · exact Steady.refl s
  · exact Steady.refl s
  · next h => exact held (by rw [h]; nofun)
  · next h _ _ => exact (held h).trans (steady_tellAdmission _)

theorem steady_enterHoldoff {reason : HoldoffReason} (h : (s.lane l).state.demodulates = true)
    (runs : (LaneState.holdoff reason).runsRetry = true) : Steady s (enterHoldoff reason l s) := by
  have out : ¬ (s.lane l).state.Awaits := LaneState.not_awaits_of_demodulates h
  have entered := Lane.Refits.entered (st := .holdoff reason) (later s.now retryMs) (LaneState.busy_of_demodulates h)
    nofun nofun fun _ e => absurd e out
  have record : (s.lane l).entered (.holdoff reason) (s.lane l).attempts (later s.now retryMs) =
      { (s.lane l).stopTimers with state := .holdoff reason, retryTimer := some (later s.now retryMs) } := by
    unfold Lane.entered
    rw [runs]
    rfl
  rw [record] at entered
  exact (steady_modLane entered).trans (steady_tellAdmission _)

theorem steady_enterLocked (h : (s.lane l).state.demodulates = true) : Steady s (enterLocked l s) := by
  have out : ¬ (s.lane l).state.Awaits := LaneState.not_awaits_of_demodulates h
  exact Steady.trans (steady_modLane (.entered (st := .locked) (later s.now (s.lane l).recheckPeriod)
    (LaneState.busy_of_demodulates h) (by decide) (by decide) fun _ e => absurd e out)) (steady_tellAdmission _)

/-- A counted attempt: SENSE below 3, HOLDOFF(FAILED) and its two reports at 3 (R71). -/
theorem countAttempt_eq (l : LaneId) (s : State) :
    countAttempt l s =
      if (s.lane l).attempts + 1 < 3 then
        s.setLane l { s.lane l with
          state := .acquire .sense, stageTimer := some (later s.now senseMs), tuned := s.tuning (s.lane l)
          attempts := (s.lane l).attempts + 1 }
      else
        reportLane .acqFail l (tellAdmission (.state l .holdoff) (s.setLane l
          ((s.lane l).entered (.holdoff .failed) ((s.lane l).attempts + 1) (later s.now retryMs)))) := by
  unfold countAttempt
  simp only [State.modLane, State.setLane_lane, if_true]
  split
  · simp only [enterSense, State.modLane, State.setLane_lane, if_true, State.setLane_setLane]; rfl
  · simp only [enterHoldoff, State.modLane, State.setLane_lane, if_true, State.setLane_setLane, reportState,
      LaneState.kind_holdoff]
    rfl

theorem steady_countAttempt (demodulates : (s.lane l).state.demodulates = true)
    (acquires : (s.lane l).state.kind = .acquire) : Steady s (countAttempt l s) := by
  rw [countAttempt_eq]
  split
  · exact steady_setLane (refits_stage demodulates acquires rfl fun _ => by omega)
  · refine (Steady.trans (steady_setLane ?_) (steady_tellAdmission _)).trans (steady_report _)
    have busy := LaneState.busy_of_demodulates demodulates
    exact ⟨rfl, rfl, rfl, rfl, rfl, rfl, rfl, ⟨nofun, fun e => absurd e busy⟩,
      fun h => laneLaw_entered _ h busy (by decide) (by have := h.acquiring acquires; omega) nofun,
      fun h asks => absurd asks (h.not_asking demodulates)⟩

/-- A completed error-rate window whose count is read: the lane is not FREE, since it has one (R60, R80). -/
theorem refits_window {bad : Nat} {rest : List Nat} (now : Time) (has : x.windowsDone = bad :: rest) :
    Lane.Refits x { x with windowsDone := rest } ∧
      Lane.Refits x (Lane.unsettledAt { x with windowsDone := rest } now) := by
  have busy : LaneLaw x → x.state ≠ .free := fun h e => by
    obtain ⟨-, -, -, -, -, -, -, -, empty⟩ := h.whenFree e
    rw [has] at empty
    cases empty
  have read : LaneLaw x → LaneLaw { x with windowsDone := rest } := fun h =>
    { h with whenFree := fun e => absurd e (busy h) }
  exact ⟨.of_state rfl ⟨rfl, rfl, rfl, rfl, rfl, rfl, rfl⟩ read,
    .of_state rfl ⟨rfl, rfl, rfl, rfl, rfl, rfl, rfl⟩ fun h => laneLaw_unsettledAt now (busy h) (read h)⟩

theorem completeWindow_eq (l : LaneId) (bad : Nat) (rest : List Nat) (s : State) :
    completeWindow l bad (s.modLane l fun x => { x with windowsDone := rest }) =
      if s.plan.settings.unsettle ≤ bad then
        (if (s.lane l).unsettled = none then reportLane .laneUnsettled l else id)
          (s.setLane l (Lane.unsettledAt { s.lane l with windowsDone := rest } s.now))
      else s.setLane l { s.lane l with windowsDone := rest } := by
  unfold completeWindow
  simp only [setUnsettled_eq, State.modLane, State.setLane_lane, if_true, State.setLane_setLane, State.setLane_plan,
    State.setLane_now]
  split
  · split <;> rfl
  · rfl

theorem steady_completeWindow {bad : Nat} {rest : List Nat} (has : (s.lane l).windowsDone = bad :: rest) :
    Steady s (completeWindow l bad (s.modLane l fun x => { x with windowsDone := rest })) := by
  rw [completeWindow_eq]
  split
  · have set := steady_setLane (refits_window s.now has).2
    split
    exacts [set.trans (steady_report _), set]
  · exact steady_setLane (refits_window s.now has).1

end Sys2Proof.Machine
end

section
/-! The changes that a command makes to what the laws of the lanes rest on, cut into single ones (`Move`), and Laws 1 and 2
(R117) kept by each. -/

namespace Sys2Proof.Machine

variable {s t u : State} {x y z : Lane} {l k : LaneId} {p q : Port} {i j : SubId}

/-- A subscription of a port that would be a second one on its channel is not there (Law 2). -/
def State.NoOther (s : State) (p : Port) (x : PlanIndex) : Prop := ∀ j v, s.sub p j = some v → v.channel ≠ x

/-- One change to lanes, share counts and subscriptions. -/
inductive Move (s : State) : State → Prop
  /-- What the laws rest on stays. -/
  | steady {t : State} (h : Steady s t) : Move s t
  /-- A lane that demodulates writes its parameter set and memo (R62, R98). -/
  | writes (f : Params → Params) (l : LaneId) (h : (s.lane l).state.demodulates = true) : Move s (writeFields f l s)
  /-- A lane that is not FREE restarts (R83). -/
  | restarts (l : LaneId) (busy : (s.lane l).state ≠ .free) : Move s (restartLane l s)
  /-- An unshared lane is released (R85). -/
  | frees (l : LaneId) (unshared : (s.admLane l).share = 0) : Move s (freeLane l s)
  /-- A subscription's record goes, and its lane's share count falls (R131). -/
  | drops (p : Port) (i : SubId) (v : Sub) (h : s.sub p i = some v) :
    Move s ((s.setSub p i none).modAdmLane v.lane fun a => { a with share := a.share - 1 })
  /-- An unshared lane begins to linger (R84). -/
  | lingers (l : LaneId) (time : Time) (busy : (s.lane l).state ≠ .free) (unshared : (s.admLane l).share = 0) :
    Move s (s.modLane l fun x => { x with lingerStart := some time })
  /-- A lane in sync tells the store so (R99). -/
  | locks (l : LaneId) (m : MemoId) (h : (s.lane l).state.demodulates = true) : Move s (tellStore l (.lock m) s)
  /-- A subscription joins the lane that carries its channel (R127, R129). -/
  | joins (p : Port) (i : SubId) (v : Sub) (free : s.sub p i = none)
    (carries : (s.lane v.lane).channel = some v.channel) (fresh : s.NoOther p v.channel) :
    Move s (enrollSub p i v (raiseShare v.lane s))
  /-- A subscription has a FREE lane assigned to its channel, which no lane carries (R63, R129). -/
  | assigns (p : Port) (i : SubId) (v : Sub) (rate : Option Nat) (free : s.sub p i = none)
    (idle : (s.lane v.lane).state = .free) (unheld : ∀ k, (s.lane k).channel ≠ some v.channel)
    (fresh : s.NoOther p v.channel) : Move s (enrollSub p i v (assignLane v.lane v.channel rate s))

/-! ## The number of subscriptions on a lane (R117) -/

/-- Of two tests that agree but at one item of a list without repeats, the numbers of items that pass differ by that item. -/
theorem length_filter_except {α : Type} {items : List α} {a : α} {c d : α → Bool} (distinct : items.Nodup)
    (mem : a ∈ items) (agree : ∀ b, b ≠ a → c b = d b) :
    (items.filter c).length + (d a).toNat = (items.filter d).length + (c a).toNat := by
  induction items with
  | nil => cases mem
  | cons b rest ih =>
    obtain ⟨out, rest_distinct⟩ := List.nodup_cons.mp distinct
    rw [List.filter_cons, List.filter_cons]
    rcases List.mem_cons.mp mem with rfl | inRest
    · have same : rest.filter c = rest.filter d :=
        List.filter_congr fun b hb => agree b fun e => out (e ▸ hb)
      rw [same]
      cases c a <;> cases d a <;> simp
    · have differs : b ≠ a := fun e => out (e ▸ inRest)
      have := ih rest_distinct inRest
      rw [agree b differs]
      split
      · simp only [List.length_cons]; omega
      · exact this

theorem mem_allKeys : ∀ k : Port × SubId, k ∈ allKeys := by
  rintro ⟨p, i⟩
  exact List.mem_flatMap.mpr ⟨p, Port.mem_all p, List.mem_map.mpr ⟨i, mem_allIds i, rfl⟩⟩

theorem nodup_allKeys : allKeys.Nodup := by decide

/-- Whether a subscription names a lane. -/
def onLane (l : LaneId) (v : Option Sub) : Bool := decide (v.map Sub.lane = some l)

theorem subsOnLane_eq (s : State) (l : LaneId) :
    s.subsOnLane l = (allKeys.filter fun k => onLane l (s.sub k.1 k.2)).length := rfl

/-- A changed subscription changes the number on a lane by what it adds there. -/
theorem subsOnLane_of_sub {v : Option Sub} (h : ∀ q j, t.sub q j = if p = q ∧ i = j then v else s.sub q j) (l : LaneId) :
    t.subsOnLane l + (onLane l (s.sub p i)).toNat = s.subsOnLane l + (onLane l v).toNat := by
  have own : t.sub p i = v := (h p i).trans (if_pos ⟨rfl, rfl⟩)
  have := length_filter_except (a := (p, i)) (c := fun k => onLane l (t.sub k.1 k.2))
    (d := fun k => onLane l (s.sub k.1 k.2)) nodup_allKeys (mem_allKeys _) fun k hk => by
      rw [h, if_neg fun e => hk (Prod.ext e.1.symm e.2.symm)]
  rw [own] at this
  exact this

theorem subsOnLane_congr (h : ∀ p i, (t.sub p i).map Sub.place = (s.sub p i).map Sub.place) (l : LaneId) :
    t.subsOnLane l = s.subsOnLane l := by
  have lanes : ∀ p i, (t.sub p i).map Sub.lane = (s.sub p i).map Sub.lane := fun p i => by
    have := congrArg (Option.map Prod.snd) (h p i)
    rwa [Option.map_map, Option.map_map] at this
  simp only [State.subsOnLane, lanes]

theorem subsOnLane_pos {v : Sub} (h : s.sub p i = some v) : 0 < s.subsOnLane v.lane :=
  List.length_pos_of_mem (a := (p, i)) (List.mem_filter.mpr ⟨mem_allKeys _, by simp [h]⟩)

/-! ## Laws 1 and 2 where nothing of theirs changes -/

/-- Two states that Laws 1 and 2 do not tell apart. -/
structure SharesAlike (s t : State) : Prop where
  channel : ∀ l, (t.lane l).channel = (s.lane l).channel
  free : ∀ l, (t.lane l).state = .free ↔ (s.lane l).state = .free
  linger : ∀ l, (t.lane l).lingerStart = (s.lane l).lingerStart ∨ (s.admLane l).share = 0
  shares : ∀ l, (t.admLane l).share = (s.admLane l).share
  subs : ∀ p i, (t.sub p i).map Sub.place = (s.sub p i).map Sub.place

theorem Steady.sharesAlike (h : Steady s t) : SharesAlike s t :=
  ⟨fun l => (h.lanes l).channel, fun l => (h.lanes l).free, fun l => .inl (h.lanes l).linger, h.shares, h.subs⟩

/-- A change to one lane's record that Laws 1 and 2 do not see, with admission controller's tables as they were. -/
theorem sharesAlike_of_lane {f : Lane → Lane} (lanes : ∀ k, t.lane k = if l = k then f (s.lane l) else s.lane k)
    (adm : t.adm = s.adm) (channel : (f (s.lane l)).channel = (s.lane l).channel)
    (free : (f (s.lane l)).state = .free ↔ (s.lane l).state = .free)
    (linger : (f (s.lane l)).lingerStart = (s.lane l).lingerStart ∨ (s.admLane l).share = 0) : SharesAlike s t := by
  refine ⟨fun k => ?_, fun k => ?_, fun k => ?_, fun k => ?_, fun p i => ?_⟩
  · rw [lanes]; split
    · next e => rw [← e, channel]
    · rfl
  · rw [lanes]; split
    · next e => rw [← e, free]
    · rfl
  · rw [lanes]; split
    · next e => rw [← e]; exact linger
    · exact .inl rfl
  · unfold State.admLane; rw [adm]
  · unfold State.sub State.admPort; rw [adm]

theorem sub_of_map_place {o o' : Option Sub} {v : Sub} (h : o.map Sub.place = o'.map Sub.place) (some : o = some v) :
    ∃ w, o' = .some w ∧ w.channel = v.channel ∧ w.lane = v.lane := by
  subst some
  obtain ⟨w, found, same⟩ := Option.map_eq_some_iff.mp h.symm
  exact ⟨w, found, congrArg Prod.fst same, congrArg Prod.snd same⟩

theorem SharingLaw.alike (h : SharingLaw s) (a : SharesAlike s t) : SharingLaw t where
  shares l := by rw [a.shares, subsOnLane_congr a.subs, h.shares]
  sharedBusy l shared := fun e => h.sharedBusy l (a.shares l ▸ shared) ((a.free l).mp e)
  channelWhenBusy l := by rw [a.channel, h.channelWhenBusy]; exact (not_congr (a.free l)).symm
  laneOfSub p i v hv := by
    obtain ⟨w, hw, channel, lane⟩ := sub_of_map_place (a.subs p i) hv
    rw [a.channel, ← lane, ← channel, h.laneOfSub p i w hw]
  oneLane l k x hl hk := h.oneLane l k x (a.channel l ▸ hl) (a.channel k ▸ hk)
  onePerPort p i j v w hv hw same := by
    obtain ⟨v', hv', cv, -⟩ := sub_of_map_place (a.subs p i) hv
    obtain ⟨w', hw', cw, -⟩ := sub_of_map_place (a.subs p j) hw
    exact h.onePerPort p i j v' w' hv' hw' (by rw [cv, cw, same])
  lingerUnshared l lingers := by
    rw [a.shares]
    exact (a.linger l).elim (fun e => h.lingerUnshared l (e ▸ lingers)) id

theorem SharingLaw.steady (h : SharingLaw s) (k : Steady s t) : SharingLaw t := h.alike k.sharesAlike

/-! ## What the moves make of the lanes' records -/

theorem writeFields_lane (f : Params → Params) (l k : LaneId) (s : State) :
    (writeFields f l s).lane k =
      if l = k then { s.lane l with params := withRate ((s.lane l).channel.bind s.bandwidth) (f (s.lane l).params) }
      else s.lane k := by
  unfold writeFields
  simp only
  split <;> simp [State.modLane, writeMemo, State.modMemo]

theorem restarted_channel (s : State) (x : Lane) : (s.restarted x).channel = x.channel := State.leftWait_channel ..

theorem restarted_busy (s : State) (x : Lane) : (s.restarted x).state ≠ .free := fun e =>
  nomatch (State.leftWait_free s _).mp e

theorem sharesAlike_writeFields (f : Params → Params) (l : LaneId) (s : State) : SharesAlike s (writeFields f l s) :=
  sharesAlike_of_lane (f := fun x => { x with
    params := withRate ((s.lane l).channel.bind s.bandwidth) (f (s.lane l).params) })
    (fun k => writeFields_lane f l k s) ((touches_writeFields s f l).same .adm (by decide)) rfl Iff.rfl (.inl rfl)

theorem sharesAlike_restartLane (busy : (s.lane l).state ≠ .free) : SharesAlike s (restartLane l s) :=
  sharesAlike_of_lane (fun k => restartLane_lane s l k) ((touches_restartLane s l).same .adm (by decide))
    (restarted_channel ..) ⟨fun e => absurd e (restarted_busy s _), fun e => absurd e busy⟩
    (.inl (refits_leftWait s _).linger)

/-! ## Laws 1 and 2 kept by each move -/

/-- An unshared lane has no subscription. -/
theorem SharingLaw.lane_ne (h : SharingLaw s) {v : Sub} (hv : s.sub p i = some v) (unshared : (s.admLane l).share = 0) :
    l ≠ v.lane := fun e => by
  have := subsOnLane_pos hv
  rw [← e, ← h.shares, unshared] at this
  exact absurd this (Nat.lt_irrefl 0)

/-- A released lane was unshared, and nothing else changes. -/
theorem sharingLaw_release (h : SharingLaw s) (unshared : (s.admLane l).share = 0)
    (lanes : ∀ k, t.lane k = if l = k then (s.lane l).released else s.lane k) (adm : t.adm = s.adm) :
    SharingLaw t := by
  have admLane : ∀ k, t.admLane k = s.admLane k := fun k => by unfold State.admLane; rw [adm]
  have subs : ∀ p i, t.sub p i = s.sub p i := fun p i => by unfold State.sub State.admPort; rw [adm]
  have gone : t.lane l = (s.lane l).released := (lanes l).trans (if_pos rfl)
  have others : ∀ k, k ≠ l → t.lane k = s.lane k := fun k e => (lanes k).trans (if_neg (Ne.symm e))
  have carried : ∀ k x, (t.lane k).channel = some x → (s.lane k).channel = some x := fun k x hx => by
    by_cases e : k = l
    · rw [e, gone] at hx; cases hx
    · rwa [others k e] at hx
  refine ⟨fun k => ?_, fun k shared => ?_, fun k => ?_, fun p i v hv => ?_, fun k j x hk hj => ?_, ?_, fun k lingers => ?_⟩
  · rw [admLane, subsOnLane_congr (s := s) fun p i => by rw [subs], h.shares]
  · rw [admLane] at shared
    have e : k ≠ l := fun e => by rw [e, unshared] at shared; exact absurd shared (Nat.lt_irrefl 0)
    rw [others k e]
    exact h.sharedBusy k shared
  · by_cases e : k = l
    · rw [e, gone]; simp [Lane.released]
    · rw [others k e]; exact h.channelWhenBusy k
  · rw [subs] at hv
    rw [others v.lane (h.lane_ne hv unshared).symm]
    exact h.laneOfSub p i v hv
  · exact h.oneLane k j x (carried k x hk) (carried j x hj)
  · simp only [subs]; exact h.onePerPort
  · rw [admLane]
    by_cases e : k = l
    · rw [e, unshared]
    · rw [others k e] at lingers; exact h.lingerUnshared k lingers

theorem sharingLaw_freeLane (h : SharingLaw s) (unshared : (s.admLane l).share = 0) : SharingLaw (freeLane l s) :=
  sharingLaw_release h unshared (fun k => freeLane_lane s l k) ((touches_freeLane s l).same .adm (by decide))

theorem sharingLaw_drops (h : SharingLaw s) {v : Sub} (hv : s.sub p i = some v) :
    SharingLaw ((s.setSub p i none).modAdmLane v.lane fun a => { a with share := a.share - 1 }) := by
  generalize ht : State.modAdmLane _ v.lane _ = t
  have lanes : ∀ k, t.lane k = s.lane k := by subst ht; exact fun _ => rfl
  have subs : ∀ q j, t.sub q j = if p = q ∧ i = j then none else s.sub q j := by
    subst ht; exact fun q j => State.setSub_sub s p q i j none
  have share : ∀ k, (t.admLane k).share = (s.admLane k).share - (onLane k (some v)).toNat := fun k => by
    subst ht
    simp only [State.modAdmLane, State.setAdmLane_admLane, State.setSub_admLane, onLane, Option.map_some,
      Option.some.injEq]
    split
    · next e => rw [decide_eq_true e, e]; rfl
    · next e => rw [decide_eq_false e]; rfl
  have kept : ∀ {q j w}, t.sub q j = some w → s.sub q j = some w := fun {q j w} hw => by
    rw [subs] at hw
    split at hw
    · cases hw
    · exact hw
  have fewer : ∀ k, (t.admLane k).share ≤ (s.admLane k).share := fun k => (share k).trans_le (Nat.sub_le ..)
  refine ⟨fun k => ?_, fun k shared => ?_, fun k => ?_, fun q j w hw => ?_, fun k j x hk hj => ?_,
    fun q j j' w w' hw hw' => h.onePerPort q j j' w w' (kept hw) (kept hw'), fun k lingers => ?_⟩
  · have := subsOnLane_of_sub subs k
    rw [hv, ← h.shares] at this
    simp only [onLane, Option.map_none, reduceCtorEq, decide_false, Bool.toNat_false] at this
    rw [share]
    unfold onLane
    omega
  · rw [lanes]; exact h.sharedBusy k (Nat.lt_of_lt_of_le shared (fewer k))
  · rw [lanes]; exact h.channelWhenBusy k
  · rw [lanes]; exact h.laneOfSub q j w (kept hw)
  · rw [lanes] at hk hj; exact h.oneLane k j x hk hj
  · rw [lanes] at lingers
    exact Nat.le_zero.mp ((fewer k).trans_eq (h.lingerUnshared k lingers))

theorem sharesAlike_lingers (time : Time) (unshared : (s.admLane l).share = 0) :
    SharesAlike s (s.modLane l fun x => { x with lingerStart := some time }) :=
  sharesAlike_of_lane (f := fun x => { x with lingerStart := some time }) (fun k => State.setLane_lane s l k _) rfl rfl
    Iff.rfl (.inr unshared)

/-- A subscription is enrolled on a lane that carries its channel, and no other lane does. -/
theorem sharingLaw_enrolls {v : Sub} (h : SharingLaw s) (free : s.sub p i = none) (fresh : s.NoOther p v.channel)
    (unheld : ∀ k, k ≠ v.lane → (s.lane k).channel ≠ some v.channel)
    (subs : ∀ q j, t.sub q j = if p = q ∧ i = j then some v else s.sub q j)
    (own : (t.lane v.lane).channel = some v.channel ∧ (t.lane v.lane).state ≠ .free ∧
      (t.lane v.lane).lingerStart = none ∧ (t.admLane v.lane).share = (s.admLane v.lane).share + 1)
    (others : ∀ k, k ≠ v.lane → t.lane k = s.lane k ∧ t.admLane k = s.admLane k)
    (kept : ∀ q j w, s.sub q j = some w → w.lane = v.lane → w.channel = v.channel) : SharingLaw t := by
  obtain ⟨channel, busy, still, share⟩ := own
  have found : ∀ {q j w}, t.sub q j = some w → (p = q ∧ i = j ∧ w = v) ∨ s.sub q j = some w := fun {q j w} hw => by
    rw [subs] at hw
    split at hw
    · next e => exact .inl ⟨e.1, e.2, (Option.some.inj hw).symm⟩
    · exact .inr hw
  refine ⟨fun k => ?_, fun k shared => ?_, fun k => ?_, fun q j w hw => ?_, fun k j x hk hj => ?_,
    fun q j j' w w' hw hw' same => ?_, fun k lingers => ?_⟩
  · have count := subsOnLane_of_sub subs k
    rw [free, ← h.shares] at count
    by_cases e : k = v.lane
    · subst e
      simp only [onLane, Option.map_none, reduceCtorEq, decide_false, Bool.toNat_false, Option.map_some, decide_true,
        Bool.toNat_true] at count
      omega
    · have off : onLane k (some v) = false := decide_eq_false fun c => e (Option.some.inj c).symm
      rw [off] at count
      simp only [onLane, Option.map_none, reduceCtorEq, decide_false, Bool.toNat_false] at count
      rw [(others k e).2]
      exact count.symm
  · by_cases e : k = v.lane
    · rw [e]; exact busy
    · rw [(others k e).1]; rw [(others k e).2] at shared; exact h.sharedBusy k shared
  · by_cases e : k = v.lane
    · rw [e, channel]; exact ⟨fun _ => busy, fun _ => rfl⟩
    · rw [(others k e).1]; exact h.channelWhenBusy k
  · rcases found hw with ⟨-, -, rfl⟩ | hw
    · exact channel
    · by_cases e : w.lane = v.lane
      · rw [e, channel, kept q j w hw e]
      · rw [(others _ e).1]; exact h.laneOfSub q j w hw
  · have held : ∀ k, (t.lane k).channel = some v.channel → k = v.lane := fun k hk => by
      by_contra e
      rw [(others k e).1] at hk
      exact unheld k e hk
    by_cases ek : k = v.lane
    · rw [ek, channel] at hk
      rw [← hk] at hj
      exact ek.trans (held j hj).symm
    · by_cases ej : j = v.lane
      · rw [ej, channel] at hj
        rw [← hj] at hk
        exact (held k hk).trans ej.symm
      · rw [(others k ek).1] at hk
        rw [(others j ej).1] at hj
        exact h.oneLane k j x hk hj
  · rcases found hw with ⟨rfl, rfl, rfl⟩ | hw <;> rcases found hw' with ⟨e1, e2, e3⟩ | hw'
    · exact e2
    · exact absurd same.symm (fresh j' w' hw')
    · subst e1 e3; exact absurd same (fresh j w hw)
    · exact h.onePerPort q j j' w w' hw hw' same
  · by_cases e : k = v.lane
    · rw [e, still] at lingers; cases lingers
    · rw [(others k e).1] at lingers; rw [(others k e).2]; exact h.lingerUnshared k lingers

theorem enrollSub_sub (p : Port) (i : SubId) (v : Sub) (s : State) (q : Port) (j : SubId) :
    (enrollSub p i v s).sub q j = if p = q ∧ i = j then some v else s.sub q j := by
  unfold enrollSub
  rw [State.setSub_sub, modAdmPort_sub]

theorem sharingLaw_joins {v : Sub} (h : SharingLaw s) (free : s.sub p i = none)
    (carries : (s.lane v.lane).channel = some v.channel) (fresh : s.NoOther p v.channel) :
    SharingLaw (enrollSub p i v (raiseShare v.lane s)) := by
  have lanes : ∀ k, (enrollSub p i v (raiseShare v.lane s)).lane k =
      if v.lane = k then { s.lane v.lane with lingerStart := none } else s.lane k := fun k =>
    State.setLane_lane (s.modAdmLane v.lane _) v.lane k _
  have admLanes : ∀ k, (enrollSub p i v (raiseShare v.lane s)).admLane k =
      if v.lane = k then { s.admLane v.lane with share := (s.admLane v.lane).share + 1 } else s.admLane k := fun k =>
    State.setAdmLane_admLane s v.lane k _
  refine sharingLaw_enrolls h free fresh (fun k e hk => e (h.oneLane k v.lane _ hk carries))
    (fun q j => enrollSub_sub p i v _ q j) ?_ (fun k e => ?_) fun q j w hw lane => ?_
  · rw [lanes, admLanes, if_pos rfl, if_pos rfl]
    exact ⟨carries, (h.channelWhenBusy v.lane).mp (by rw [carries]; rfl), rfl, rfl⟩
  · rw [lanes, admLanes, if_neg (Ne.symm e), if_neg (Ne.symm e)]
    exact ⟨rfl, rfl⟩
  · have := h.laneOfSub q j w hw
    rw [lane, carries] at this
    exact (Option.some.inj this).symm

theorem sharingLaw_assigns {v : Sub} (rate : Option Nat) (h : SharingLaw s) (free : s.sub p i = none)
    (idle : (s.lane v.lane).state = .free) (unheld : ∀ k, (s.lane k).channel ≠ some v.channel)
    (fresh : s.NoOther p v.channel) : SharingLaw (enrollSub p i v (assignLane v.lane v.channel rate s)) := by
  have lanes : ∀ k, (enrollSub p i v (assignLane v.lane v.channel rate s)).lane k =
      if v.lane = k then assigned v.channel (s.lane v.lane) else s.lane k := fun k => assignLane_lane v.channel rate
  have admLanes : ∀ k, (enrollSub p i v (assignLane v.lane v.channel rate s)).admLane k =
      if v.lane = k then { channel := some v.channel, share := 1, rate, seen := .acquire } else s.admLane k := fun k =>
    assignLane_admLane v.lane k v.channel rate s
  have unshared : (s.admLane v.lane).share = 0 := Nat.eq_zero_of_not_pos fun pos => h.sharedBusy v.lane pos idle
  refine sharingLaw_enrolls h free fresh (fun k _ => unheld k) (fun q j => ?_) ?_ (fun k e => ?_) fun q j w hw lane => ?_
  · rw [enrollSub_sub]; rfl
  · rw [lanes, admLanes, if_pos rfl, if_pos rfl, unshared]
    exact ⟨rfl, nofun, rfl, rfl⟩
  · rw [lanes, admLanes, if_neg (Ne.symm e), if_neg (Ne.symm e)]
    exact ⟨rfl, rfl⟩
  · exact absurd lane.symm (h.lane_ne hw unshared)

theorem sharingLaw_move (h : SharingLaw s) (m : Move s t) : SharingLaw t := by
  cases m with
  | steady k => exact h.steady k
  | writes f l d => exact h.alike (sharesAlike_writeFields f l s)
  | restarts l busy => exact h.alike (sharesAlike_restartLane busy)
  | frees l unshared => exact sharingLaw_freeLane h unshared
  | drops p i v hv => exact sharingLaw_drops h hv
  | lingers l time busy unshared => exact h.alike (sharesAlike_lingers time unshared)
  | locks l m d => exact ⟨h.shares, h.sharedBusy, h.channelWhenBusy, h.laneOfSub, h.oneLane, h.onePerPort, h.lingerUnshared⟩
  | joins p i v free carries fresh => exact sharingLaw_joins h free carries fresh
  | assigns p i v rate free idle unheld fresh => exact sharingLaw_assigns rate h free idle unheld fresh

end Sys2Proof.Machine
end

section
/-! The commands of the lanes, the front end, the admission controller, the ports and the plan's settings, cut into moves. -/

namespace Sys2Proof.Machine

variable {s t u : State} {x y z : Lane} {l k : LaneId} {p q : Port} {i j : SubId}

/-- A run of single changes. -/
def Moves (s t : State) : Prop := Relation.ReflTransGen Move s t

theorem Moves.refl (s : State) : Moves s s := Relation.ReflTransGen.refl

theorem Moves.trans (h : Moves s t) (k : Moves t u) : Moves s u := Relation.ReflTransGen.trans h k

theorem Move.moves (m : Move s t) : Moves s t := Relation.ReflTransGen.single m

theorem Steady.moves (h : Steady s t) : Moves s t := (Move.steady h).moves

theorem Moves.move (h : Moves s t) (m : Move t u) : Moves s u := h.trans m.moves

theorem Moves.steady (h : Moves s t) (k : Steady t u) : Moves s u := h.trans k.moves

theorem Moves.settle (h : Moves s t) : Moves s (settle t) := h.steady steady_settle

theorem Moves.ite {c : Prop} [Decidable c] (h : Moves s t) (k : Moves s u) : Moves s (if c then t else u) := by
  split <;> assumption

/-- What each move keeps, a run of moves keeps. -/
theorem Moves.keeps {P : State → Prop} (one : ∀ {s t}, P s → Move s t → P t) (h : P s) (m : Moves s t) : P t := by
  induction m with
  | refl => exact h
  | tail _ last ih => exact one ih last

theorem SharingLaw.moves (h : SharingLaw s) (m : Moves s t) : SharingLaw t := m.keeps sharingLaw_move h

/-- An operation over lanes without repeats is a run of moves where it is one for each lane that meets a condition which
the operation on another lane leaves met. -/
theorem moves_forEach {f : LaneId → State → State} {C : LaneId → State → Prop} (one : ∀ l t, C l t → Moves t (f l t))
    (keeps : ∀ l k t, l ≠ k → C k t → C k (f l t)) {items : List LaneId} (distinct : items.Nodup)
    (holds : ∀ l ∈ items, C l s) : Moves s (forEach items f s) := by
  induction items generalizing s with
  | nil => exact Moves.refl s
  | cons x rest ih =>
    obtain ⟨out, rest_distinct⟩ := List.nodup_cons.mp distinct
    refine (one x s (holds x (List.mem_cons_self ..))).trans (ih rest_distinct fun y hy => ?_)
    exact keeps x y s (fun e => out (e ▸ hy)) (holds y (List.mem_cons_of_mem x hy))

/-! ## Restarts and releases (R83, R85) -/

theorem moves_restarts {items : List LaneId} (distinct : items.Nodup) (busy : ∀ l ∈ items, (s.lane l).state ≠ .free) :
    Moves s (forEach items restartLane s) :=
  moves_forEach (C := fun l t => (t.lane l).state ≠ .free) (fun l _ h => (Move.restarts l h).moves)
    (fun l k t e h => by rw [restartLane_lane, if_neg e]; exact h) distinct busy

theorem moves_restartBusyLanes : Moves s (restartBusyLanes s) :=
  moves_restarts (List.Nodup.filter _ (by decide)) fun _ h => laneBusy_iff.mp (List.mem_filter.mp h).2

theorem moves_releaseFeedHoldoffs : Moves s (releaseFeedHoldoffs s) := by
  refine (moves_restarts (List.Nodup.filter _ (by decide)) fun l h => ?_).steady steady_allLeaveWait
  rw [of_decide_eq_true (List.mem_filter.mp h).2]
  nofun

theorem moves_releaseWithin (unshared : (s.admLane l).share = 0) : Moves s (releaseWithin l s) :=
  (Move.frees l unshared).moves.steady ((steady_dropReports l).trans (steady_recordFree l))

theorem moves_releaseLane (unshared : (s.admLane l).share = 0) : Moves s (releaseLane l s) :=
  (Move.frees l unshared).moves.steady (steady_tellAdmission _)

theorem releaseWithin_share (l k : LaneId) (s : State) : ((releaseWithin l s).admLane k).share = (s.admLane k).share := by
  rw [releaseWithin_admLane]
  split
  · next e => rw [← e]; rfl
  · rfl

theorem releaseLane_admLane (l k : LaneId) (s : State) : (releaseLane l s).admLane k = s.admLane k :=
  congrArg (fun a : Admission => a.lanes.get k) ((touches_releaseLane s l).same .adm (by decide))

/-! ## Moves of the window (R42, R43) -/

theorem moves_moveWindow (position : Nat) : Moves s (moveWindow position s) := by
  have cleared : Moves s (clearWindow position s) := by
    refine (steady_setFe _).moves.trans (moves_forEach (C := fun l t => (t.admLane l).share = 0)
      (fun l _ => moves_releaseWithin) (fun l k t _ h => (releaseWithin_share l k t).trans h)
      (nodup_misfits s position) fun l h => ?_)
    have := mem_misfits.mp h
    simp only [leaves, Bool.and_eq_true, decide_eq_true_eq] at this
    exact this.1.2
  rw [moveWindow_eq]
  refine Moves.steady ?_ (steady_raiseNoticeAll _)
  unfold shiftWindow
  exact Moves.ite ((cleared.steady (steady_setFe _)).trans moves_restartBusyLanes) cleared

theorem moveWindow_sub (position : Nat) (s : State) (p : Port) (i : SubId) :
    (moveWindow position s).sub p i = s.sub p i := by
  unfold State.sub State.admPort
  rw [(sameAdmPorts_moveWindow position s).1]

/-! ## Removals (R131, R139) -/

theorem moves_removeSub {v : Sub} (law : SharingLaw s) (h : s.sub p i = some v) : Moves s (removeSub p i v s) := by
  unfold removeSub
  simp only
  generalize hw : (if v.overload = true then s else s.modAdmPort p _) = w
  obtain ⟨charged, same⟩ : Steady s w ∧ w.sub p i = s.sub p i := by
    rw [← ite_not] at hw
    exact hw ▸ steady_chargeIf _
  have found : w.sub p i = some v := same.trans h
  have wlaw := law.steady charged
  have busy : (w.lane v.lane).state ≠ .free :=
    (wlaw.channelWhenBusy v.lane).mp (by rw [wlaw.laneOfSub p i v found]; rfl)
  unfold lowerShare
  simp only
  have dropped := charged.moves.move (.drops p i v found)
  split
  · next unshared =>
    exact Moves.ite (dropped.trans (moves_releaseLane unshared)) (dropped.move (.lingers v.lane _ busy unshared))
  · exact dropped

theorem moves_removeAll (p : Port) (law : SharingLaw s) : Moves s (removeAll p s) := by
  refine forEach_keeps (P := Moves s) _ (fun i _ t m => m.trans ?_) (Moves.refl s)
  unfold removeWithNotice
  split
  · exact Moves.refl t
  · next h => exact (moves_removeSub (law.moves m) h).steady (steady_raiseNotice _ p)

theorem moves_expireHold (p : Port) (law : SharingLaw s) : Moves s (expireHold p s) := by
  unfold expireHold
  simp only
  generalize hw : s.modPort p _ = w
  have off : Steady s w := hw ▸ steady_setPort _
  exact ((off.moves.trans (moves_removeAll p (law.steady off))).steady (steady_emptyQueue p)).steady
    ((steady_restoreDefaults p).trans (steady_report _))

/-! ## INSTALL_SET (R14) -/

theorem moves_handLinger (before : Settings) (law : SharingLaw s) : Moves s (handLinger before s) := by
  refine Moves.ite (Moves.refl s) (moves_forEach (C := fun l t => (t.admLane l).share = 0) (fun l _ => moves_releaseLane)
    (fun l k t _ h => by rw [releaseLane_admLane]; exact h) (List.Nodup.filter _ (by decide)) fun l h => ?_)
  have due := (List.mem_filter.mp h).2
  refine law.lingerUnshared l ?_
  unfold State.lingerDue stampAge at due
  cases hl : (s.lane l).lingerStart with
  | none => simp [hl] at due
  | some _ => rfl

theorem moves_handHold (before : Settings) (law : SharingLaw s) : Moves s (handHold before s) := by
  refine Moves.ite (Moves.refl s) (forEach_keeps (P := Moves s) _ (fun p _ t m => ?_) (Moves.refl s))
  have taken := m.steady steady_takeReports
  exact taken.trans (moves_expireHold p (law.moves taken))

theorem moves_installSet (p : Port) (body : List Byte) (law : SharingLaw s) : Moves s (installSet p body s) := by
  unfold installSet
  simp only
  split
  · exact (steady_respond p _ _).moves
  · generalize hw : s.setPlan _ = w
    have set : Steady s w := hw ▸ steady_setPlan
    have handed := set.moves.trans (moves_handLinger s.plan.settings (law.steady set))
    exact (handed.trans (moves_handHold _ (law.moves handed))).steady
      ((steady_retarget _).trans (steady_respond p _ _))

/-! ## The admission controller's requests (chapter 6) -/

theorem moves_unsubscribe (p : Port) (body : List Byte) (law : SharingLaw s) : Moves s (unsubscribe p body s) := by
  unfold unsubscribe
  split
  · exact (steady_respond p _ _).moves
  · split
    · exact (steady_respond p _ _).moves
    · next h =>
      refine (moves_removeSub law h).steady (Steady.trans ?_ (steady_retarget _))
      have told : ∀ w : State, ∀ fields i, Steady w (raiseRemoved p i (respond p .ok fields w)) := fun w fields i =>
        (steady_respond p _ _).trans (steady_raiseNotice _ p)
      exact Steady.ite (told _ _ _) ((told _ _ _).trans (steady_readmit p))

theorem steady_portSetup (p : Port) (body : List Byte) : Steady s (portSetup p body s) := by
  unfold portSetup
  simp only
  refine Steady.ite (steady_respond p _ _) (Steady.ite (steady_respond p _ _) ?_)
  unfold applySetup
  simp only
  generalize hw : State.modAdmPort _ p _ = w
  have set : Steady s w := by
    subst hw
    refine Steady.trans ?_ steady_modAdmPort
    split
    exacts [Steady.refl s, steady_applyQuota p _]
  have aimed := set.trans (steady_retarget s.target)
  exact (Steady.ite (aimed.trans (steady_readmit p)) aimed).respond p _ _

theorem moves_portReset (p : Port) (law : SharingLaw s) : Moves s (portReset p s) :=
  (moves_removeAll p law).steady ((((steady_emptyUnsent p).trans (steady_restoreDefaults p)).trans
    (steady_retarget _)).respond p _ _)

theorem moves_windowSet (p : Port) (body : List Byte) : Moves s (windowSet p body s) := by
  unfold windowSet
  simp only
  refine Moves.ite (steady_respond p _ _).moves ?_
  split
  · exact (steady_respond p _ _).moves
  · split
    · exact (steady_respond p _ _).moves
    · exact (moves_moveWindow _).steady ((steady_retarget _).respond p _ _)

/-! ### SUBSCRIBE (R124 to R129) -/

theorem laneAndCapacity_accept {id i' : SubId} {c : PlanIndex} {pend move : Option Nat} {choice : LaneChoice}
    {rate : Option Nat} {charge : Nat} (h : s.laneAndCapacity p id c pend = .accept i' choice move rate charge) :
    i' = id ∧ move = pend ∧ s.chooseLane c pend = some choice := by
  unfold State.laneAndCapacity at h
  split at h
  · cases h
  · next hc =>
    simp only at h
    split at h <;> cases h
    exact ⟨rfl, rfl, hc⟩

/-- What the checks of an admitted SUBSCRIBE have found: no subscription of the port on the channel, a free id, and a lane
(R125, R127). -/
theorem checkSubscribe_admits {r : SubscribeBody} {choice : LaneChoice} {move rate : Option Nat} {charge : Nat}
    (h : s.checkSubscribe p r = .accept i choice move rate charge) :
    s.subOn p r.index = none ∧ s.freeId p = some i ∧ s.chooseLane r.index move = some choice := by
  unfold State.checkSubscribe at h
  split at h
  · cases h
  · split at h
    · cases h
    · next hs =>
      split at h
      · cases h
      · next hi =>
        split at h
        · cases h
        · cases h
        · cases h
        all_goals
          obtain ⟨rfl, rfl, chosen⟩ := laneAndCapacity_accept h
          exact ⟨hs, hi, chosen⟩

theorem noOther_of_subOn {c : PlanIndex} (h : s.subOn p c = none) : s.NoOther p c := fun j v hv e => by
  have := List.find?_eq_none.mp h j (mem_allIds j)
  rw [hv] at this
  exact this (decide_eq_true (congrArg some e))

theorem freeId_free (h : s.freeId p = some i) : s.sub p i = none :=
  of_decide_eq_true (List.find?_some (p := fun i => decide (s.sub p i = none)) h)

theorem oldestLinger_lingers (h : s.oldestLinger = some l) : s.lingering l = true := by
  have inv : ∀ (items : List LaneId) (best : Option LaneId), (∀ k ∈ items, s.lingering k = true) →
      (∀ b, best = some b → s.lingering b = true) →
      ∀ b, items.foldl (olderOf s.lingerAge) best = some b → s.lingering b = true := by
    intro items
    induction items with
    | nil => exact fun best _ hb => hb
    | cons k rest ih =>
      intro best hi hb
      rw [List.foldl_cons]
      refine ih _ (fun m hm => hi m (List.mem_cons_of_mem k hm)) fun b hbest => ?_
      unfold olderOf at hbest
      split at hbest
      · cases hbest; exact hi _ (List.mem_cons_self ..)
      · split at hbest
        · cases hbest; exact hi _ (List.mem_cons_self ..)
        · cases hbest; exact hb _ rfl
  rw [oldestLinger_eq] at h
  exact inv _ none (fun k hk => (List.mem_filter.mp hk).2) nofun l h

/-- The lane a SUBSCRIBE chooses: one that carries the channel; or, with the channel carried by none, a FREE one, one that
the pending move will release, or a lingering one (R127). -/
theorem chooseLane_cases {c : PlanIndex} {move : Option Nat} {choice : LaneChoice}
    (h : s.chooseLane c move = some choice) :
    (∃ l, choice = .share l ∧ (s.lane l).state ≠ .free ∧ (s.lane l).channel = some c) ∨
      s.holdingLane c = none ∧
        ((∃ l, choice = .free l ∧ s.countsFree move l = true) ∨
          ∃ l, choice = .reclaim l ∧ (s.admLane l).share = 0) := by
  unfold State.chooseLane at h
  split at h
  · next l hl =>
    cases h
    have := List.find?_some (p := fun l => s.laneBusy l && decide ((s.lane l).channel = some c)) hl
    rw [Bool.and_eq_true, laneBusy_iff, decide_eq_true_eq] at this
    exact .inl ⟨l, rfl, this⟩
  · next none =>
    refine .inr ⟨none, ?_⟩
    split at h
    · next l hl => cases h; exact .inl ⟨l, rfl, List.find?_some hl⟩
    · obtain ⟨l, hl, rfl⟩ := Option.map_eq_some_iff.mp h
      have := oldestLinger_lingers hl
      unfold State.lingering at this
      rw [Bool.and_eq_true, decide_eq_true_eq] at this
      exact .inr ⟨l, rfl, this.2⟩

/-- The window moved where a move is pending: lanes that carried no channel carry none, one that was busy and not released
keeps its channel, and the shares and subscriptions stay. -/
theorem moved_moves (s : State) (move : Option Nat) : Moves s (s.moved move) := by
  cases move with
  | none => exact Moves.refl s
  | some position => exact moves_moveWindow position

theorem moved_sub (s : State) (move : Option Nat) (p : Port) (i : SubId) : (s.moved move).sub p i = s.sub p i := by
  cases move with
  | none => rfl
  | some position => exact moveWindow_sub position s p i

/-- A move of the window gives no lane a channel. -/
theorem moved_channel {c : PlanIndex} {move : Option Nat} (h : ((s.moved move).lane k).channel = some c) :
    (s.lane k).channel = some c := by
  cases move with
  | none => exact h
  | some position =>
    unfold State.moved at h
    rw [moveWindow_lane] at h
    split at h
    · cases h
    · split at h <;> exact h

theorem moved_share (s : State) (move : Option Nat) (k : LaneId) :
    ((s.moved move).admLane k).share = 0 ↔ (s.admLane k).share = 0 := by
  cases move with
  | none => rfl
  | some position =>
    unfold State.moved
    rw [moveWindow_admLane]
    split
    · next h =>
      simp only [leaves, Bool.and_eq_true, decide_eq_true_eq] at h
      simp [h.1.2]
    · rfl

/-- A lane that counts as FREE is FREE behind the pending move (R127). -/
theorem moved_free {move : Option Nat} (h : s.countsFree move l = true) : ((s.moved move).lane l).state = .free := by
  cases move with
  | none =>
    refine Classical.not_not.mp fun busy => ?_
    have off : (!s.laneBusy l) = true := h
    have on : s.laneBusy l = true := laneBusy_iff.mpr busy
    rw [on] at off
    cases off
  | some position =>
    unfold State.moved
    rw [moveWindow_lane]
    split
    · rfl
    · next stays =>
      have free := (countsFree_iff.mp h).resolve_right stays
      rw [if_neg (by simp [restarts, free]), free]

/-- A shared lane keeps its channel at a move, where it is not released. -/
theorem moved_carries {c : PlanIndex} {move : Option Nat} (h : (s.lane l).channel = some c)
    (fit : ∀ position, move = some position → s.laneFits position l = true) :
    ((s.moved move).lane l).channel = some c := by
  cases move with
  | none => exact h
  | some position =>
    unfold State.moved
    rw [moveWindow_lane, if_neg (by simp [leaves, fit position rfl])]
    split <;> exact h

/-- Before the answer and the notice, an accepted SUBSCRIBE takes its lane and enrolls the subscription (R129). -/
theorem createSub_eq (p : Port) (r : SubscribeBody) (i : SubId) (choice : LaneChoice) (move rate : Option Nat)
    (charge : Nat) (s : State) : ∃ state fields notice, createSub p r i choice move rate charge s =
      retarget s.target (raiseNotice notice p (respond p .ok fields
        (enrollSub p i (newSub r choice.lane charge state) (takeLane choice r.index rate (s.moved move))))) := by
  cases move <;> exact ⟨_, _, _, rfl⟩

/-- A free or reclaimed lane is assigned, once it is FREE (R129). -/
theorem moves_assigned {v : Sub} {rate : Option Nat} (free : s.sub p i = none)
    (fresh : s.NoOther p v.channel) (unheld : ∀ k, (s.lane k).channel ≠ some v.channel)
    (unshared : (s.admLane v.lane).share = 0) :
    Moves s (enrollSub p i v (assignLane v.lane v.channel rate (releaseWithin v.lane s))) := by
  have sub : ∀ q j, (releaseWithin v.lane s).sub q j = s.sub q j := fun q j => by
    unfold State.sub State.admPort
    rw [(sameAdmPorts_releaseWithin v.lane s).1]
  refine (moves_releaseWithin unshared).move (.assigns p i v rate ((sub p i).trans free) ?_ (fun k => ?_) fun j w hw => ?_)
  · rw [releaseWithin_lane, if_pos rfl]; rfl
  · rw [releaseWithin_lane]
    split
    · nofun
    · exact unheld k
  · exact fresh j w ((sub p j).symm.trans hw)

theorem moves_createSub {r : SubscribeBody} {choice : LaneChoice} {move rate : Option Nat} {charge : Nat}
    (law : SharingLaw s) (h : s.checkSubscribe p r = .accept i choice move rate charge) :
    Moves s (createSub p r i choice move rate charge s) := by
  obtain ⟨single, id, chosen⟩ := checkSubscribe_admits h
  obtain ⟨e, entry, ok⟩ := checkSubscribe_accept h
  have moved : Moves s (s.moved move) := moved_moves s move
  have free : (s.moved move).sub p i = none := (moved_sub s move p i).trans (freeId_free id)
  have fresh : (s.moved move).NoOther p r.index := fun j v hv =>
    noOther_of_subOn single j v ((moved_sub s move p j).symm.trans hv)
  have unheld (none : s.holdingLane r.index = none) (k) : ((s.moved move).lane k).channel ≠ some r.index := fun hk => by
    have carried := moved_channel hk
    exact holdingLane_eq_none.mp none k ((law.channelWhenBusy k).mp (by rw [carried]; rfl)) carried
  obtain ⟨state, fields, notice, created⟩ := createSub_eq p r i choice move rate charge s
  rw [created]
  refine (moved.trans ?_).steady (((steady_respond p _ _).trans (steady_raiseNotice _ p)).trans (steady_retarget _))
  rcases chooseLane_cases chosen with ⟨l, rfl, -, carries⟩ | ⟨none, ⟨l, rfl, counts⟩ | ⟨l, rfl, unshared⟩⟩
  · refine (Move.joins p i _ free (moved_carries carries fun position pending => ?_) fresh).moves
    subst pending
    have found : s.laneEntry l = some e := by
      unfold State.laneEntry
      rw [carries, Option.bind_some, entry]
    change s.laneFits position l = true
    unfold State.laneFits
    rw [found]
    exact ok.2
  · exact (Move.assigns p i _ rate free (moved_free counts) (unheld none) fresh).moves
  · exact moves_assigned free fresh (unheld none) ((moved_share s move l).mpr unshared)

theorem moves_subscribe (p : Port) (body : List Byte) (law : SharingLaw s) : Moves s (subscribe p body s) := by
  unfold subscribe
  split
  · exact (steady_respond p _ _).moves
  · split
    · exact (steady_respond p _ _).moves
    · next h => exact moves_createSub law h

end Sys2Proof.Machine
end

section
/-! Each command but those of the memo store and the resets as a run of moves. -/

namespace Sys2Proof.Machine

variable {s t u : State} {x y z : Lane} {l k : LaneId} {p q : Port} {i j : SubId}

/-! ## The events of acquisition (R67 to R72) -/

theorem steady_enterStage {st : Stage} {ms : Nat} (d : (s.lane l).state.demodulates = true)
    (acquires : (s.lane l).state.kind = .acquire) (timed : st.timed = true) : Steady s (enterStage st ms l s) :=
  steady_setLane (refits_stage (tuned := (s.lane l).tuned) (attempts := (s.lane l).attempts) d acquires timed
    fun h => h.acquiring acquires)

theorem writeFields_state (f : Params → Params) (l k : LaneId) (s : State) :
    ((writeFields f l s).lane k).state = (s.lane k).state := by
  rw [writeFields_lane]
  split
  · next e => rw [← e]
  · rfl

theorem clearFields_state (f : Params → Params) (l k : LaneId) (s : State) :
    ((clearFields f l s).lane k).state = (s.lane k).state := by
  unfold clearFields
  simp only
  split <;> exact writeFields_state f l k s

theorem writeCell_state (cell : BitVec 16) (l k : LaneId) (s : State) :
    ((writeCell cell l s).lane k).state = (s.lane k).state := by
  unfold writeCell
  simp only
  split
  · exact writeFields_state _ l k s
  · split <;> exact writeFields_state _ l k s

theorem steady_reportRate (l : LaneId) : Steady s (reportRate l s) := steady_tellAdmission _

theorem steady_reportState (l : LaneId) : Steady s (reportState l s) := steady_tellAdmission _

theorem steady_reportLane (kind : ErrorKind) (l : LaneId) : Steady s (reportLane kind l s) := steady_report _

theorem moves_clearFields (f : Params → Params) (d : (s.lane l).state.demodulates = true) :
    Moves s (clearFields f l s) :=
  Moves.ite (Move.writes f l d).moves ((Move.writes f l d).moves.steady (steady_reportRate l))

theorem moves_writeCell (cell : BitVec 16) (d : (s.lane l).state.demodulates = true) : Moves s (writeCell cell l s) := by
  have wrote := (Move.writes (fun f => { f with cell := some cell }) l d).moves
  unfold writeCell
  simp only
  split
  · exact wrote
  · exact Moves.ite wrote (wrote.steady (steady_reportLane _ l))

/-- A lane in a timed stage demodulates in ACQUIRE. -/
theorem acquires_of_inStage {st : Stage} (h : s.inStage l st = true) : (s.lane l).state.kind = .acquire := by
  rw [of_decide_eq_true h]
  rfl

theorem moves_carrierFound (offset : Int) (mode : CarrierMode) (guard : Guard) (h : s.inStage l .carrier = true) :
    Moves s (carrierFound l offset mode guard s) := by
  have d := demodulates_of_inStage h rfl
  unfold carrierFound
  simp only
  generalize hw : writeFields _ l s = w
  have same : (w.lane l).state = (s.lane l).state := hw ▸ writeFields_state _ l l s
  have wrote : Moves s w := hw ▸ (Move.writes _ l d).moves
  have entered := wrote.steady (steady_enterStage (st := .frame) (ms := frameMs) (same ▸ d)
    (same ▸ acquires_of_inStage h) rfl)
  exact Moves.ite entered (entered.steady (steady_reportRate l))

theorem moves_clearedAttempt {st : Stage} (f : Params → Params) (h : s.stageExpired l st = true)
    (timed : st.timed = true) : Moves s (countAttempt l (clearFields f l s)) := by
  have stage := inStage_of_stageExpired h
  have d := demodulates_of_inStage stage timed
  refine (moves_clearFields f d).steady (steady_countAttempt ?_ ?_) <;> rw [clearFields_state]
  exacts [d, acquires_of_inStage stage]

theorem moves_frameDecoded (constellation : Constellation) (codeRate : CodeRate) (cell : BitVec 16)
    (h : s.inStage l .frame = true) : Moves s (frameDecoded l constellation codeRate cell s) := by
  have d := demodulates_of_inStage h rfl
  unfold frameDecoded
  simp only
  generalize hw : writeFields _ l s = w
  have same : (w.lane l).state = (s.lane l).state := hw ▸ writeFields_state _ l l s
  have wrote : Moves s w := hw ▸ (Move.writes _ l d).moves
  have reported := (wrote.trans (moves_writeCell cell (same ▸ d))).steady (steady_reportRate l)
  have kept : ((reportRate l (writeCell cell l w)).lane l).state = (s.lane l).state :=
    (writeCell_state cell l l w).trans same
  exact reported.steady (steady_enterStage (kept ▸ d) (kept ▸ acquires_of_inStage h) rfl)

theorem moves_signallingMatch (cell : BitVec 16) (h : s.inStage l .verify = true) :
    Moves s (enterStage .stream streamMs l (writeCell cell l s)) := by
  have d := demodulates_of_inStage h rfl
  refine (moves_writeCell cell d).steady (steady_enterStage ?_ ?_ rfl) <;> rw [writeCell_state]
  exacts [d, acquires_of_inStage h]

theorem moves_mismatch (h : s.inStage l .verify = true) : Moves s (mismatch l s) := by
  have d := demodulates_of_inStage h rfl
  unfold mismatch
  simp only
  generalize hw : clearFields _ l s = w
  have same : (w.lane l).state = (s.lane l).state := hw ▸ clearFields_state _ l l s
  have cleared : Moves s w := hw ▸ moves_clearFields _ d
  exact (cleared.steady (steady_reportLane .memoMismatch l)).steady
    (steady_enterStage (same ▸ d) (same ▸ acquires_of_inStage h) rfl)

theorem moves_streamSync (h : s.inStage l .stream = true) : Moves s (streamSync l s) := by
  have d := demodulates_of_inStage h rfl
  have locked := (steady_enterLocked d).moves
  unfold streamSync
  simp only
  split
  · exact locked
  · next m _ =>
    refine locked.move (.locks l m ?_)
    unfold enterLocked reportState
    rw [tellAdmission_eq, State.setMail_lane, State.modLane, State.setLane_lane, if_pos rfl]
    rfl

/-! ## The events of LOCKED and COAST (R75 to R83) -/

theorem steady_syncLost (h : (s.lane l).state = .locked) :
    Steady s (reportState l
      (s.modLane l (fun x => { x.stopTimers with state := .coast, coastTimer := some (later s.now coastMs) }))) := by
  have busy : (s.lane l).state ≠ .free := by rw [h]; nofun
  refine (steady_setLane ?_).trans (steady_reportState l)
  exact .entered (st := .coast) (later s.now coastMs) busy nofun nofun fun _ e => by
    rw [h] at e; exact absurd e (LaneState.not_awaits_of_demodulates rfl)

theorem moves_coastExpiry (h : (s.lane l).state = .coast) :
    Moves s (restartLane l (setUnsettled l (reportLane .lockLost l s))) := by
  have busy : (s.lane l).state ≠ .free := by rw [h]; nofun
  have unsettled : Steady s (setUnsettled l (reportLane .lockLost l s)) :=
    (steady_reportLane .lockLost l).trans (steady_setLane (refits_unsettledAt s.now busy))
  exact unsettled.moves.move (.restarts l fun e => busy ((unsettled.lanes l).free.mp e))

theorem refits_readPending (pending : Bool) (time : Time) (h : x.state = .locked) :
    Lane.Refits x { x with readPending := pending, recheckTimer := some time } :=
  .of_state rfl ⟨rfl, rfl, rfl, rfl, rfl, rfl, rfl⟩ fun law =>
    { law with recheckTimer := ⟨fun _ => h, fun _ => rfl⟩, readPending := fun _ => h }

theorem moves_recheck (mode : CarrierMode) (guard : Guard) (constellation : Constellation) (codeRate : CodeRate)
    (cell : BitVec 16) : Yields (Moves s) (execRecheck l mode guard constellation codeRate cell s) := by
  unfold execRecheck
  split
  · next h =>
    obtain ⟨locked, -⟩ := h
    have d : (s.lane l).state.demodulates = true := by rw [locked]; rfl
    simp only
    generalize hw : s.modLane l _ = w
    have same : (w.lane l).state = (s.lane l).state := by
      rw [← hw, State.modLane, State.setLane_lane, if_pos rfl]
    have read : Steady s w := hw ▸ steady_modLane (.of_state rfl ⟨rfl, rfl, rfl, rfl, rfl, rfl, rfl⟩ fun law =>
      { law with readPending := nofun })
    have cells : ∀ v : State, (v.lane l).state = (s.lane l).state → Moves v (recheckCell l cell v) := fun v hv => by
      unfold recheckCell
      split
      · exact Moves.refl v
      · exact Moves.ite (Moves.refl v) (moves_writeCell cell (hv ▸ d))
    refine yields_ite (fun _ => ?_) (read.moves.trans (cells w same))
    unfold changeSignalling
    simp only
    generalize hv : writeFields _ l w = v
    have kept : (v.lane l).state = (s.lane l).state := hv ▸ (writeFields_state _ l l w).trans same
    have wrote : Moves w v := hv ▸ (Move.writes _ l (same ▸ d)).moves
    have told := (read.moves.trans wrote).steady ((steady_reportLane .signallingChange l).trans (steady_reportRate l))
    exact told.trans (cells _ kept)
  · exact Moves.refl s

/-! ## The antenna feed and the links (R51 to R57, R140, R165, R166) -/

theorem steady_raiseFeedNotice : Steady s (raiseFeedNotice s) := steady_raiseNoticeAll _

/-- The feed changes and releases the lanes that waited for it. -/
theorem moves_fedAnew (f : FrontEnd) : Moves s (raiseFeedNotice (releaseFeedHoldoffs (s.setFe f))) :=
  ((steady_setFe f).moves.trans moves_releaseFeedHoldoffs).steady steady_raiseFeedNotice

theorem moves_switchFeed (target : FeedState) : Moves s (switchFeed target s) := moves_fedAnew _

theorem moves_restoreFeed : Moves s (restoreFeed s) := by
  unfold restoreFeed
  exact moves_fedAnew _

theorem moves_setFeed (on : Bool) : Moves s (setFeed on s) := by
  unfold setFeed
  split
  exacts [moves_switchFeed _, Moves.refl s, Moves.refl s, moves_switchFeed _, Moves.refl s, moves_switchFeed _,
    moves_switchFeed _, moves_switchFeed _]

theorem moves_feedSet (p : Port) (body : List Byte) : Moves s (feedSet p body s) := by
  unfold feedSet
  split
  · exact (steady_respond p _ _).moves
  · exact (moves_setFeed _).steady (steady_respond p _ _)

theorem steady_overcurrent : Steady s (overcurrent s) := by
  unfold overcurrent
  simp only
  generalize hw : s.modFe _ = w
  have fed : Steady s w := hw ▸ steady_setFe _
  exact ((fed.trans (steady_report _)).trans (Steady.forEach (fun l _ => steady_feedHoldoff l) _ _)).trans
    steady_raiseFeedNotice

theorem steady_retuneCompletion : Steady s (retuneCompletion s) := by
  unfold retuneCompletion
  simp only
  generalize hw : s.modFe _ = w
  have active : Steady s w := hw ▸ steady_setFe _
  exact ((active.trans steady_allLeaveWait).trans (steady_raiseNoticeAll _)).trans steady_steer

theorem steady_forgetAsker (p : Port) : Steady s (forgetAsker p s) := by
  unfold forgetAsker
  split
  · exact Steady.refl s
  · exact Steady.ite steady_setPlan (Steady.refl s)

theorem steady_linkDown (p : Port) : Steady s
    (retarget (takeReports s).target (reportPort .portDetached p (rederivePort false p (emptyQueue p
      (forgetAsker p ((takeReports s).modPort p fun r => r.down (takeReports s).now)))))) :=
  (((((steady_takeReports.trans (steady_setPort _)).trans (steady_forgetAsker p)).trans (steady_emptyQueue p)).trans
    (steady_rederivePort false p)).trans (steady_report _)).trans (steady_retarget _)

/-! ## The commands -/

/-- The commands of the memo store, the store's answers at a lane, the plan's writes and the resets. -/
def isOfStore : Instr → Bool
  | .coldReset | .warmReset | .planWrite _ | .planDiscard | .memoPin _ | .memoFlush _ | .memoFlushUnpinned _
  | .memoSeed _ | .lookup _ | .lookupAnswer _ | .lockNotice _ | .releaseNotice _ | .restartAllocation _
  | .restartAllocationAnswer _ => true
  | _ => false

theorem exec_moves (law : SharingLaw s) {c : Instr} (hc : isOfStore c = false) : Yields (Moves s) (exec c s) := by
  have same : Moves s s := Moves.refl s
  have served : ∀ p, Moves s (markServed p s) ∧ SharingLaw (markServed p s) := fun p =>
    ⟨(steady_markServed p).moves, law.steady (steady_markServed p)⟩
  by_cases hs : isSteady c = true
  · exact (exec_steady hs).imp Steady.moves
  cases c with
  | installSet p =>
    simp only [exec, execInstallSet]
    split
    exacts [same, (moves_installSet p _ law).settle]
  | feedSet p =>
    simp only [exec, execFeedSet]
    split
    exacts [same, (moves_feedSet p _).settle]
  | subscribe p =>
    simp only [exec, execSubscribe]
    split
    exacts [same, ((served p).1.trans (moves_subscribe p _ (served p).2)).settle]
  | unsubscribe p =>
    simp only [exec, execUnsubscribe]
    split
    exacts [same, ((served p).1.trans (moves_unsubscribe p _ (served p).2)).settle]
  | portSetup p =>
    simp only [exec, execPortSetup]
    split
    exacts [same, ((served p).1.steady (steady_portSetup p _)).settle]
  | portReset p =>
    simp only [exec, execPortReset]
    split
    exacts [same, ((served p).1.trans (moves_portReset p (served p).2)).settle]
  | windowSet p =>
    simp only [exec, execWindowSet]
    split
    exacts [same, ((served p).1.trans (moves_windowSet p _)).settle]
  | linkUp p =>
    have up : ∀ r, Steady s ((takeReports s).setPort p r) := fun r => steady_takeReports.trans (steady_setPort r)
    simp only [exec, execLinkUp]
    split
    · exact same
    · exact ((up _).trans (steady_retarget _)).settle.moves
    · exact (((up _).trans (steady_rederivePort true p)).trans (steady_retarget _)).settle.moves
  | linkDown p => exact yields_ite (fun _ => (steady_linkDown p).settle.moves) same
  | holdExpiry p =>
    refine yields_ite (fun _ => Moves.settle (Moves.steady ?_ (steady_retarget _))) same
    exact steady_takeReports.moves.trans (moves_expireHold p (law.steady steady_takeReports))
  | wakeCompletion => exact yields_ite (fun _ => ((steady_setFe _).trans steady_allLeaveWait).moves) same
  | retuneCompletion => exact yields_ite (fun _ => steady_retuneCompletion.settle.moves) same
  | overcurrentEvent => exact yields_ite (fun _ => steady_overcurrent.settle.moves) same
  | feedRestore => exact yields_ite (fun _ => moves_restoreFeed.settle) same
  | signalPresent l =>
    simp only [exec, execSignalPresent]
    split
    · next h =>
      have d := demodulates_of_inStage h rfl
      have a := acquires_of_inStage h
      exact yields_ite (fun _ => (steady_enterStage d a rfl).moves) (steady_enterStage d a rfl).moves
    · exact same
  | senseTimeout l =>
    exact yields_ite (fun h =>
      (steady_enterHoldoff (demodulates_of_inStage (inStage_of_stageExpired h) rfl) rfl).moves) same
  | carrierFound l offset mode guard => exact yields_ite (moves_carrierFound offset mode guard) same
  | carrierTimeout l | frameTimeout l => exact yields_ite (fun h => moves_clearedAttempt _ h rfl) same
  | frameDecoded l constellation codeRate cell => exact yields_ite (moves_frameDecoded constellation codeRate cell) same
  | signallingMatch l cell => exact yields_ite (moves_signallingMatch cell) same
  | signallingMismatch l => exact yields_ite moves_mismatch same
  | verifyTimeout l => exact yields_ite (fun h => moves_mismatch (inStage_of_stageExpired h)) same
  | streamSync l => exact yields_ite moves_streamSync same
  | streamTimeout l =>
    refine yields_ite (fun h => ?_) same
    have stage := inStage_of_stageExpired h
    exact (steady_countAttempt (demodulates_of_inStage stage rfl) (acquires_of_inStage stage)).moves
  | syncLost l => exact yields_ite (fun h => (steady_syncLost h).moves) same
  | syncRegained l => exact yields_ite (fun h => (steady_enterLocked (by rw [h]; rfl)).moves) same
  | coastExpiry l => exact yields_ite (fun h => moves_coastExpiry h.1) same
  | recheckTimerExpiry l =>
    exact yields_ite (fun h => (steady_modLane (refits_readPending true _ h.1)).moves) same
  | recheck l mode guard constellation codeRate cell => exact moves_recheck mode guard constellation codeRate cell
  | lanePacket l outcome bytes =>
    refine yields_ite (fun h => (Steady.trans (steady_modLane (refits_packet outcome ?_)) steady_setMail).moves) same
    rw [h]
    nofun
  | errorRateWindowComplete l =>
    simp only [exec, execErrorRateWindowComplete]
    split
    · exact same
    · next has => exact (steady_completeWindow has).moves
  | unsettledExpiry l =>
    refine yields_ite (fun _ => Steady.moves (steady_modLane (.of_state rfl ⟨rfl, rfl, rfl, rfl, rfl, rfl, rfl⟩
      fun law => { law with whenFree := fun e => ?_ }))) same
    obtain ⟨memo, params, attempts, -, rest⟩ := law.whenFree e
    exact ⟨memo, params, attempts, rfl, rest⟩
  | retryExpiry l =>
    refine yields_ite (fun h => (Move.restarts l ?_).moves) same
    rcases h.1 with e | e <;> rw [e] <;> nofun
  | lingerExpiry l =>
    refine yields_ite (fun due => (moves_releaseLane (law.lingerUnshared l ?_)).steady (steady_retarget _)) same
    unfold State.lingerDue stampAge at due
    cases hl : (s.lane l).lingerStart with
    | none => simp [hl] at due
    | some _ => rfl
  | _ => simp_all [isOfStore, isSteady]

end Sys2Proof.Machine
end

section
/-! The commands of the memo store, the store's answers at a lane and the resets, as far as lanes and admission controller
see them; and Laws 1 and 2 (R117) through every step. -/

namespace Sys2Proof.Machine

variable {s t u : State} {x y : Lane} {l k : LaneId} {p q : Port} {c : Instr}

/-! ## What the store and the plan change apart from lanes and admission controller -/

/-- The parts other than lanes and admission controller. -/
def apartParts : List Part := [.now, .plan, .fe, .store, .pool, .ports, .log, .mail, .slotPicks, .pending]

/-- Two states with the same lanes and admission controller. -/
def Apart (s t : State) : Prop := Touches apartParts s t

theorem Apart.refl (s : State) : Apart s s := Touches.refl _ s

theorem Apart.trans (h : Apart s t) (k : Apart t u) : Apart s u := Touches.trans h k

theorem Touches.apart {parts : List Part} (h : Touches parts s t) (sub : ∀ p ∈ parts, p ∈ apartParts) : Apart s t :=
  h.mono sub

theorem Apart.lane (h : Apart s t) (l : LaneId) : t.lane l = s.lane l :=
  congrArg (fun v : Vector Lane 6 => v.get l) (h.same .lanes (by decide))

theorem Apart.adm (h : Apart s t) : t.adm = s.adm := h.same .adm (by decide)

theorem Apart.settle (h : Apart s t) : Apart s (settle t) := h.trans ((touches_settle t).apart (by decide))

theorem Apart.respond (h : Apart s t) (p : Port) (status : Status) (fields : List Byte) :
    Apart s (respond p status fields t) :=
  h.trans ((touches_respond t p status fields).apart (by decide))

theorem apart_respond (p : Port) (status : Status) (fields : List Byte) : Apart s (respond p status fields s) :=
  (Apart.refl s).respond p status fields

theorem apart_setMail (m : Mail) : Apart s (s.setMail m) := (touches_setMail s m).apart (by decide)

theorem apart_setPlan (b : PlanBlock) : Apart s (s.setPlan b) := (touches_setPlan s b).apart (by decide)

theorem apart_setStore (m : MemoStore) : Apart s (s.setStore m) := (touches_setStore s m).apart (by decide)

theorem apart_findOrAllocate {x : PlanIndex} {m : MemoId} {made : Bool} (h : findOrAllocate x s = some (m, made, t)) :
    Apart s t :=
  (touches_findOrAllocate s x h).apart (by decide)

theorem apart_writeMemo (f : Params → Params) (m : MemoId) : Apart s (writeMemo f m s) :=
  (touches_writeMemo s f m).apart (by decide)

theorem apart_memoPin (p : Port) (body : List Byte) : Apart s (memoPin p body s) := by
  unfold memoPin
  split
  · exact apart_respond p _ _
  · split
    · exact apart_respond p _ _
    · split
      · exact apart_respond p _ _
      · next h => exact ((apart_findOrAllocate h).trans (apart_setStore _)).respond p _ _

theorem apart_memoFlush (p : Port) : Apart s (memoFlush p s) :=
  (((touches_flushMemos s _).trans (touches_clearPins _)).apart (by decide)).respond p _ _

theorem apart_memoFlushUnpinned (p : Port) : Apart s (memoFlushUnpinned p s) :=
  ((touches_flushMemos s _).apart (by decide)).respond p _ _

theorem apart_writeSeed (b : SeedBody) (m : MemoId) : Apart s (writeSeed b m s) :=
  Touches.ite (apart_writeMemo _ _) (apart_setStore _)

theorem apart_memoSeed (p : Port) (body : List Byte) : Apart s (memoSeed p body s) := by
  unfold memoSeed
  split
  · exact apart_respond p _ _
  · split
    · exact apart_respond p _ _
    · split
      · exact apart_respond p _ _
      · exact (apart_writeSeed _ _).respond p _ _

theorem apart_lookupMemo (l : LaneId) (x : PlanIndex) : Apart s (lookupMemo l x s) := by
  unfold lookupMemo
  have counted : Apart s (setInUse l (some x) s) := apart_setStore _
  simp only
  split
  · exact counted.trans (apart_setMail _)
  · next h => exact (counted.trans (apart_findOrAllocate h)).trans (apart_setMail _)

theorem apart_restartMemo (l : LaneId) (x : PlanIndex) (params : Params) : Apart s (restartMemo l x params s) := by
  unfold restartMemo
  split
  · exact apart_setMail _
  · next h =>
    exact (Touches.ite (apart_findOrAllocate h) ((apart_findOrAllocate h).trans (apart_writeMemo _ _))).trans
      (apart_setMail _)

theorem apart_planWrite (p : Port) (body : List Byte) : Apart s (planWrite p body s) := by
  unfold planWrite
  split
  · exact apart_respond p _ _
  · split
    · exact apart_respond p _ _
    · split
      · exact apart_respond p _ _
      · exact apart_setPlan _

theorem apart_planDiscard (d : DiscardAsk) : Apart s (planDiscard d s) := by
  have discarded : Apart s (discardMemo d.index (s.setPlan { s.plan with discard := none })) :=
    (apart_setPlan _).trans ((touches_discardMemo _ _).apart (by decide))
  unfold planDiscard
  simp only
  split
  exacts [discarded, discarded.respond _ _ _]

theorem apart_popStore (l : LaneId) : Apart s (popStore l s) := apart_setMail _

/-- The store's commands that leave lanes and admission controller as they are. -/
def isApart : Instr → Bool
  | .planWrite _ | .planDiscard | .memoPin _ | .memoFlush _ | .memoFlushUnpinned _ | .memoSeed _ | .lookup _
  | .lockNotice _ | .releaseNotice _ | .restartAllocation _ => true
  | _ => false

theorem exec_apart (hc : isApart c = true) : Yields (Apart s) (exec c s) := by
  have same : Apart s s := Apart.refl s
  cases c with
  | planWrite p =>
    simp only [exec, execPlanWrite]
    split
    · exact same
    · split
      exacts [same, (apart_planWrite p _).settle]
  | planDiscard =>
    simp only [exec, execPlanDiscard]
    split
    exacts [same, (apart_planDiscard _).settle]
  | memoPin p =>
    simp only [exec, execMemoPin]
    split
    exacts [same, (apart_memoPin p _).settle]
  | memoFlush p =>
    simp only [exec, execMemoFlush]
    split
    exacts [same, (apart_memoFlush p).settle]
  | memoFlushUnpinned p =>
    simp only [exec, execMemoFlushUnpinned]
    split
    exacts [same, (apart_memoFlushUnpinned p).settle]
  | memoSeed p =>
    simp only [exec, execMemoSeed]
    split
    exacts [same, (apart_memoSeed p _).settle]
  | lookup l =>
    simp only [exec, execLookup]
    split
    exacts [(apart_popStore l).trans (apart_lookupMemo l _), same]
  | lockNotice l =>
    simp only [exec, execLockNotice]
    split
    exacts [(apart_popStore l).trans (apart_setStore _), same]
  | releaseNotice l =>
    simp only [exec, execReleaseNotice]
    split
    exacts [(apart_popStore l).trans (apart_setStore _), same]
  | restartAllocation l =>
    simp only [exec, execRestartAllocation]
    split
    exacts [(apart_popStore l).trans (apart_restartMemo l _ _), same]
  | _ => cases hc

/-! ## The store's answers at a lane (R64, R83) -/

/-- The channel of the question that an answer is to. -/
def LaneMsg.channel : LaneMsg → PlanIndex
  | .lookup x _ => x
  | .restart x _ => x

/-- The lane with its lookup answered (R64). -/
def Lane.lookedUp (x : Lane) (answer : Option (MemoId × Params)) : Lane :=
  { x with
    lookupPending := false, memo := answer.map (fun a => a.1)
    params := (answer.map (fun a => a.2)).getD Params.absent }

/-- The lane with a restart allocation answered (R83). -/
def Lane.allocated (x : Lane) (answer : Option MemoId) : Lane :=
  { x with restartsPending := x.restartsPending - 1, memo := answer }

/-- The lane with an answer of an earlier assignment discarded (R64). -/
def Lane.pastAnswer (x : Lane) : Lane := { x with staleAnswers := x.staleAnswers - 1 }

/-- What a lane makes of an answer that concerns it. -/
def Lane.answered (x : Lane) : LaneMsg → Lane
  | .lookup _ answer => x.lookedUp answer
  | .restart _ answer => x.allocated answer

/-- What an answer leaves behind beside the lane's record: the answer is taken, and no message to the store is sent. -/
structure TakesAnswer (s t : State) (l : LaneId) (rest : List LaneMsg) : Prop where
  touches : Touches [.lanes, .mail] s t
  toStore : t.mail.toStore = s.mail.toStore
  toLane : t.mail.toLane = Tab.put s.mail.toLane l rest

/-- What the store's answer does to the lane: nothing is there to take; the answer is of an earlier assignment or of one
that has ended; or the lane takes it, and leaves WAIT where it may (R64, R66, R83). -/
inductive Answers (s : State) (l : LaneId) (t : State) : Prop
  | idle (h : t = s)
  | discards (m : LaneMsg) (rest : List LaneMsg) (waiting : s.mail.toLane.get l = m :: rest)
    (past : s.answerConcerns l m.channel = false) (taken : TakesAnswer s t l rest)
    (lanes : ∀ k, t.lane k = if l = k then (s.lane l).pastAnswer else s.lane k)
  | takes (m : LaneMsg) (rest : List LaneMsg) (waiting : s.mail.toLane.get l = m :: rest)
    (concerns : s.answerConcerns l m.channel = true) (taken : TakesAnswer s t l rest)
    (lanes : ∀ k, t.lane k = if l = k then s.leftWait ((s.lane l).answered m) else s.lane k)

theorem takesAnswer_popAnswer {m : LaneMsg} {rest : List LaneMsg} (waiting : s.mail.toLane.get l = m :: rest) :
    TakesAnswer s (popAnswer l s) l rest := by
  refine ⟨(touches_setMail s _).mono (by decide), rfl, ?_⟩
  simp only [popAnswer, State.setMail_mail, waiting, List.tail_cons]

theorem answers_discarded {m : LaneMsg} {rest : List LaneMsg} (waiting : s.mail.toLane.get l = m :: rest)
    (past : ¬ s.answerConcerns l m.channel = true) : Answers s l (discardAnswer l (popAnswer l s)) :=
  have popped := takesAnswer_popAnswer waiting
  .discards m rest waiting (Bool.eq_false_iff.mpr past)
    ⟨popped.touches.trans ((touches_setLane _ l _).mono (by decide)), popped.toStore, popped.toLane⟩
    fun k => State.setLane_lane (popAnswer l s) l k _

/-- A lane's record set and its messages sent, the lane then leaves WAIT where it may. -/
theorem leaveWait_set (l : LaneId) (y : Lane) (m : Mail) (s : State) :
    leaveWait l ((s.setLane l y).setMail m) = (s.setLane l (s.leftWait y)).setMail m := by
  have lane : ((s.setLane l y).setMail m).lane l = y := by rw [State.setMail_lane, State.setLane_lane, if_pos rfl]
  rw [leaveWait_eq, lane, leftWait_congr s ((s.setLane l y).setMail m) rfl rfl rfl]
  exact congrArg (fun w => w.setMail m) (State.setLane_setLane s l y _)

/-- The reports of a lane whose lookup is answered: a rate report, and MEMO_UNAVAILABLE where there was no victim (R64,
R65). -/
def lookupReports (l : LaneId) (answer : Option (MemoId × Params)) (s : State) : Mail :=
  { s.mail with
    toAdm := s.mail.toAdm ++ [AdmMsg.rate l ((s.lane l).lookedUp answer).params.streamRate]
    toLog := s.mail.toLog ++ if answer = none then [laneFault s .memoUnavailable l] else [] }

theorem takeLookupAnswer_eq (l : LaneId) (answer : Option (MemoId × Params)) (s : State) :
    takeLookupAnswer l answer s =
      (s.setLane l (s.leftWait ((s.lane l).lookedUp answer))).setMail (lookupReports l answer s) := by
  rw [← leaveWait_set]
  unfold takeLookupAnswer
  simp only
  refine congrArg (leaveWait l) ?_
  have set : ∀ m : Mail, (((s.setLane l ((s.lane l).lookedUp answer)).setMail m).lane l) = (s.lane l).lookedUp answer :=
    fun m => by rw [State.setMail_lane, State.setLane_lane, if_pos rfl]
  have own : (s.setLane l ((s.lane l).lookedUp answer)).lane l = (s.lane l).lookedUp answer := set s.mail
  have modified : (s.modLane l fun x =>
      { x with
        lookupPending := false
        memo := answer.map (fun a => a.1)
        params := (answer.map (fun a => a.2)).getD Params.absent }) = s.setLane l ((s.lane l).lookedUp answer) := rfl
  rw [modified]
  unfold lookupReports
  cases answer with
  | none =>
    rw [if_pos rfl, if_pos rfl]
    unfold reportRate reportLane report tellAdmission
    rw [set, own]
    rfl
  | some a =>
    rw [if_neg nofun, if_neg nofun, List.append_nil]
    unfold reportRate tellAdmission
    rw [own]
    rfl

theorem takeRestartAnswer_eq (l : LaneId) (answer : Option MemoId) (s : State) :
    takeRestartAnswer l answer s = s.setLane l (s.leftWait ((s.lane l).allocated answer)) :=
  leaveWait_set l _ s.mail s

theorem answers_takes {m : LaneMsg} {rest : List LaneMsg} (waiting : s.mail.toLane.get l = m :: rest)
    (concerns : s.answerConcerns l m.channel = true) {mail : Mail} (toStore : mail.toStore = s.mail.toStore)
    (toLane : mail.toLane = (popAnswer l s).mail.toLane) :
    Answers s l (((popAnswer l s).setLane l (s.leftWait ((s.lane l).answered m))).setMail mail) :=
  .takes m rest waiting concerns
    ⟨((takesAnswer_popAnswer waiting).touches.trans ((touches_setLane _ l _).mono (by decide))).trans
      ((touches_setMail _ mail).mono (by decide)), toStore, toLane.trans (takesAnswer_popAnswer waiting).toLane⟩
    fun k => State.setLane_lane (popAnswer l s) l k _

theorem waiting_of_laneMsg {m : LaneMsg} (h : s.laneMsg l = some m) :
    s.mail.toLane.get l = m :: (s.mail.toLane.get l).tail :=
  (List.cons_head?_tail h).symm

theorem exec_answers (hc : c = .lookupAnswer l ∨ c = .restartAllocationAnswer l) : Yields (Answers s l) (exec c s) := by
  rcases hc with rfl | rfl
  · simp only [exec, execLookupAnswer]
    split
    · next x answer head =>
      have waiting := waiting_of_laneMsg head
      split
      · next concerns =>
        rw [takeLookupAnswer_eq]
        exact answers_takes waiting concerns rfl rfl
      · next past => exact answers_discarded waiting past
    · exact .idle rfl
  · simp only [exec, execRestartAllocationAnswer]
    split
    · next x answer head =>
      have waiting := waiting_of_laneMsg head
      split
      · next concerns =>
        rw [takeRestartAnswer_eq]
        exact answers_takes (mail := (popAnswer l s).mail) waiting concerns rfl rfl
      · next past => exact answers_discarded waiting past
    · exact .idle rfl

/-! ## What every step does to lanes and admission controller -/

/-- What a command does, as far as the laws of the lanes are concerned. -/
inductive LaneEffect (s t : State) : Prop
  | moves (h : Moves s t)
  | apart (h : Apart s t)
  | answers (l : LaneId) (h : Answers s l t)
  | resets (h : AfterEitherReset t)

theorem exec_laneEffect (law : SharingLaw s) (c : Instr) : Yields (LaneEffect s) (exec c s) := by
  by_cases store : isOfStore c = false
  · exact (exec_moves law store).imp .moves
  · by_cases apart : isApart c = true
    · exact (exec_apart apart).imp .apart
    · cases c with
      | coldReset => exact .resets (afterEitherReset_afterCold s)
      | warmReset =>
        rw [exec_warmReset]
        exact .resets (afterEitherReset_warmBase_setLog s _)
      | lookupAnswer l => exact (exec_answers (.inl rfl)).imp (.answers l)
      | restartAllocationAnswer l => exact (exec_answers (.inr rfl)).imp (.answers l)
      | _ => simp_all [isOfStore, isApart]

theorem steady_pending (rest : List Instr) : Steady s { s with pending := rest } := by
  refine Touches.steady (parts := [.pending]) (fun part other => ?_) (by decide)
  cases part <;> first | rfl | exact absurd (List.mem_singleton_self _) other

theorem steady_tick : Steady s (tick s) := by
  refine Touches.steady (parts := [.now, .fe]) (fun part other => ?_) (by decide)
  cases part <;> first | rfl | exact absurd (by decide) other

/-- What every step keeps of the lanes, with Laws 1 and 2: what leaves alone what the laws rest on keeps it, and each
command's effect does. -/
theorem step_keeps_lanes {P : State → Prop} (still : ∀ {s t}, P s → Steady s t → P t)
    (effect : ∀ {s t}, SharingLaw s → P s → LaneEffect s t → P t) {s t : State} (law : SharingLaw s) (h : P s)
    (e : step s = .next t) : P t := by
  cases hp : s.pending with
  | nil =>
    rw [step_eq_tick hp] at e
    exact Host.Outcome.next.inj e ▸ still h steady_tick
  | cons c rest =>
    rw [step_eq_exec hp] at e
    have queued : Steady s { s with pending := rest } := steady_pending rest
    have lawQueued := law.steady queued
    exact effect lawQueued (still h queued) ((exec_laneEffect lawQueued c).next e)

/-! ## Laws 1 and 2 -/

theorem Apart.sharesAlike (h : Apart s t) : SharesAlike s t where
  channel l := by rw [h.lane]
  free l := by rw [h.lane]
  linger l := .inl (by rw [h.lane])
  shares l := by unfold State.admLane; rw [h.adm]
  subs p i := by unfold State.sub State.admPort; rw [h.adm]

theorem Lane.answered_same (x : Lane) (m : LaneMsg) :
    (x.answered m).channel = x.channel ∧ (x.answered m).state = x.state ∧ (x.answered m).lingerStart = x.lingerStart := by
  cases m <;> exact ⟨rfl, rfl, rfl⟩

theorem Answers.sharesAlike (h : Answers s l t) : SharesAlike s t := by
  cases h with
  | idle e => exact e ▸ (Steady.refl s).sharesAlike
  | discards m rest _ _ taken lanes =>
    exact sharesAlike_of_lane lanes (taken.touches.same .adm (by decide)) rfl Iff.rfl (.inl rfl)
  | takes m rest _ _ taken lanes =>
    obtain ⟨channel, state, linger⟩ := (s.lane l).answered_same m
    refine sharesAlike_of_lane (f := fun x => s.leftWait (x.answered m)) lanes (taken.touches.same .adm (by decide)) ?_ ?_
      (.inl ?_)
    · exact (State.leftWait_channel ..).trans channel
    · rw [State.leftWait_free, state]
    · exact (refits_leftWait s _).linger.trans linger

theorem sharingLaw_reset (h : AfterEitherReset t) : SharingLaw t := by
  have none : ∀ p i v, t.sub p i ≠ some v := fun p i v => by rw [h.subscriptions]; nofun
  have share : ∀ l, (t.admLane l).share = 0 := fun l => by rw [h.admissionLanes]
  refine ⟨fun l => ?_, fun l shared => ?_, fun l => ?_, fun p i v hv => absurd hv (none p i v), fun l k x hl => ?_,
    fun p i _ v _ hv => absurd hv (none p i v), fun l _ => share l⟩
  · rw [share]
    exact (List.length_eq_zero_iff.mpr (List.filter_eq_nil_iff.mpr fun k _ => by simp [h.subscriptions])).symm
  · rw [share] at shared; cases shared
  · rw [h.lanes]; simp
  · rw [h.lanes] at hl; cases hl

theorem sharingLaw_effect (law : SharingLaw s) (h : LaneEffect s t) : SharingLaw t := by
  cases h with
  | moves m => exact law.moves m
  | apart a => exact law.alike a.sharesAlike
  | answers l a => exact law.alike a.sharesAlike
  | resets r => exact sharingLaw_reset r

/-- Settles O50: each command is a run of moves that keep the laws, or leaves alone what they rest on, or resets. -/
theorem stepKeepsSharesAndChannels : Obligations.StepKeepsSharesAndChannels := fun _ _ law =>
  step_keeps_lanes SharingLaw.steady (fun law _ => sharingLaw_effect law) law law

end Sys2Proof.Machine
end

section
/-! The presence and range rules of the lane record (R60) through every step. -/

namespace Sys2Proof.Machine

variable {s t u : State} {x y : Lane} {l k : LaneId} {p : Port} {i : SubId}

/-- Every lane's record meets the rules of R60. -/
def LanesLaw (s : State) : Prop := ∀ l, LaneLaw (s.lane l)

theorem LanesLaw.steady (h : LanesLaw s) (k : Steady s t) : LanesLaw t := fun l => (k.lanes l).law (h l)

/-- Where one lane's record changes, the rules are to be shown of that record. -/
theorem LanesLaw.put (h : LanesLaw s) (lanes : ∀ k, t.lane k = if l = k then y else s.lane k) (own : LaneLaw y) :
    LanesLaw t := fun k => by
  rw [lanes]
  split
  · exact own
  · exact h k

/-! ## Lane records -/

/-- Of a lane that is not FREE, the rules speak neither of parameter set, memo and questions nor of the linger. -/
theorem laneLaw_of_busy (h : LaneLaw x) (busy : x.state ≠ .free) (params : Params) (memo : Option MemoId)
    (lookup : Bool) (restarts stale : Nat) (linger : Option Time) :
    LaneLaw { x with
      params := params, memo := memo, lookupPending := lookup, restartsPending := restarts, staleAnswers := stale
      lingerStart := linger } :=
  { h with whenFree := fun e => absurd e busy }

/-- No timer runs in a lane that is FREE or waits, and it counts no attempts. -/
theorem laneLaw_still {st : LaneState} {channel : Option PlanIndex} (h : LaneLaw x) (still : st = .free ∨ st = .acquire .wait)
    (carries : channel.isSome ↔ st ≠ .free)
    (whenFree : st = .free → x.memo = none ∧ x.params = Params.absent ∧ x.unsettled = none ∧ x.lingerStart = none ∧
      x.lookupPending = false ∧ x.restartsPending = 0 ∧ x.tuned = none ∧ x.windowsDone = []) :
    LaneLaw { x.stopTimers with state := st, attempts := 0, channel := channel } := by
  have timers : st.runsStage = false ∧ st ≠ .locked ∧ st ≠ .coast ∧ st.runsRetry = false := by
    rcases still with rfl | rfl <;> decide
  obtain ⟨stage, unlocked, uncoasting, retry⟩ := timers
  exact {
    stageTimer := by simp [Lane.stopTimers, stage]
    recheckTimer := by simp [Lane.stopTimers, unlocked]
    readPending := nofun
    coastTimer := by simp [Lane.stopTimers, uncoasting]
    retryTimer := by simp [Lane.stopTimers, retry]
    channel := carries
    whenFree := fun e =>
      let ⟨memo, params, unsettled, linger, rest⟩ := whenFree e
      ⟨memo, params, rfl, unsettled, linger, rest⟩
    attempts := Nat.zero_le _
    acquiring := fun _ => Nat.zero_le _
    window := h.window
    counters := h.counters }

theorem laneLaw_restarted (s : State) (h : LaneLaw x) (busy : x.state ≠ .free) : LaneLaw (s.restarted x) :=
  (refits_leftWait s _).law
    (laneLaw_of_busy (x := { x.stopTimers with state := .acquire .wait, attempts := 0, channel := x.channel })
      (laneLaw_still h (.inr rfl) (h.channel.trans ⟨fun _ => nofun, fun _ => busy⟩) nofun) nofun _ _ _ _ _ _)

theorem laneLaw_emptied (h : LaneLaw x) (stale : Nat) :
    LaneLaw { x with
      memo := none, params := Params.absent, unsettled := none, lingerStart := none, lookupPending := false
      restartsPending := 0, tuned := none, windowsDone := [], staleAnswers := stale } :=
  { h with whenFree := fun e =>
      let ⟨_, _, attempts, _⟩ := h.whenFree e
      ⟨rfl, rfl, attempts, rfl, rfl, rfl, rfl, rfl, rfl⟩ }

theorem laneLaw_released (h : LaneLaw x) : LaneLaw x.released :=
  laneLaw_still (laneLaw_emptied h x.unanswered) (.inl rfl) ⟨nofun, fun e => absurd rfl e⟩
    fun _ => ⟨rfl, rfl, rfl, rfl, rfl, rfl, rfl, rfl⟩

theorem laneLaw_fresh : LaneLaw Lane.fresh where
  stageTimer := by decide
  recheckTimer := by decide
  readPending := nofun
  coastTimer := by decide
  retryTimer := by decide
  channel := by decide
  whenFree _ := ⟨rfl, rfl, rfl, rfl, rfl, rfl, rfl, rfl, rfl⟩
  attempts := by decide
  acquiring := by decide
  window := by decide
  counters := by decide

theorem laneLaw_assigned (channel : PlanIndex) (before : Lane) : LaneLaw (assigned channel before) :=
  laneLaw_of_busy (x := { Lane.fresh.stopTimers with state := .acquire .wait, attempts := 0, channel := some channel })
    (laneLaw_still laneLaw_fresh (.inr rfl) ⟨nofun, fun _ => rfl⟩ nofun) nofun _ _ true _ (unansweredBy before) _

theorem laneLaw_answered (m : LaneMsg) (h : LaneLaw x) (busy : x.state ≠ .free) : LaneLaw (x.answered m) := by
  cases m <;> exact laneLaw_of_busy h busy _ _ _ _ _ _

theorem laneLaw_pastAnswer (h : LaneLaw x) : LaneLaw x.pastAnswer := { h with }

/-! ## The rules through moves and effects -/

theorem raiseShare_lane (l k : LaneId) (s : State) :
    (raiseShare l s).lane k = if l = k then { s.lane l with lingerStart := none } else s.lane k :=
  State.setLane_lane (s.modAdmLane l _) l k _

theorem lanesLaw_move (law : SharingLaw s) (h : LanesLaw s) (m : Move s t) : LanesLaw t := by
  cases m with
  | steady k => exact h.steady k
  | writes f l d =>
    exact h.put (writeFields_lane f l · s)
      (laneLaw_of_busy (h l) (LaneState.busy_of_demodulates d) _ _ _ _ _ _)
  | restarts l busy => exact h.put (restartLane_lane s l ·) (laneLaw_restarted s (h l) busy)
  | frees l unshared => exact h.put (freeLane_lane s l ·) (laneLaw_released (h l))
  | drops p i v hv => exact h
  | lingers l time busy unshared =>
    exact h.put (State.setLane_lane s l · _) (laneLaw_of_busy (h l) busy _ _ _ _ _ _)
  | locks l m d => exact h
  | joins p i v free carries fresh =>
    have busy := (law.channelWhenBusy v.lane).mp (by rw [carries]; rfl)
    exact h.put (raiseShare_lane v.lane · s) (laneLaw_of_busy (h v.lane) busy _ _ _ _ _ _)
  | assigns p i v rate free idle unheld fresh =>
    exact h.put (fun k => assignLane_lane v.channel rate) (laneLaw_assigned v.channel (s.lane v.lane))

/-- An answer concerns a lane that carries the channel asked for and has no earlier answers to come. -/
theorem answerConcerns_iff {c : PlanIndex} : s.answerConcerns l c = true ↔
    (s.lane l).state ≠ .free ∧ (s.lane l).channel = some c ∧ (s.lane l).staleAnswers = 0 := by
  unfold State.answerConcerns
  rw [Bool.and_eq_true, Bool.and_eq_true, laneBusy_iff, decide_eq_true_eq, decide_eq_true_eq, and_assoc]

theorem lanesLaw_effect (law : SharingLaw s) (h : LanesLaw s) (e : LaneEffect s t) : LanesLaw t := by
  cases e with
  | moves m =>
    exact (m.keeps (P := fun s => SharingLaw s ∧ LanesLaw s)
      (fun both one => ⟨sharingLaw_move both.1 one, lanesLaw_move both.1 both.2 one⟩) ⟨law, h⟩).2
  | apart a => exact fun l => a.lane l ▸ h l
  | answers l a =>
    cases a with
    | idle same => exact same ▸ h
    | discards m rest _ _ _ lanes => exact h.put lanes (laneLaw_pastAnswer (h l))
    | takes m rest _ concerns _ lanes =>
      exact h.put lanes ((refits_leftWait s _).law (laneLaw_answered m (h l) (answerConcerns_iff.mp concerns).1))
  | resets r => exact fun l => r.lanes l ▸ laneLaw_fresh

theorem step_keeps_laneLaw {s t : State} (law : SharingLaw s) (h : LanesLaw s) (e : step s = .next t) : LanesLaw t :=
  step_keeps_lanes LanesLaw.steady lanesLaw_effect law h e

end Sys2Proof.Machine
end

section
/-! The memo store's own operations: what finding, allocating, writing, flushing and discarding leave in the memos (R91 to
R106). -/

namespace Sys2Proof.Machine

variable {s t u : State} {l k : LaneId} {m n : MemoId} {c x : PlanIndex}

/-! ## Finding memos (R92, R94, R95) -/

theorem memoOf_tag (h : s.memoOf x = some m) : (s.memo m).tag = some x :=
  of_decide_eq_true (List.find?_some (p := fun m => decide ((s.memo m).tag = some x)) h)

theorem memoOf_eq_none : s.memoOf x = none ↔ ∀ m, (s.memo m).tag ≠ some x := by
  unfold State.memoOf
  rw [List.find?_eq_none]
  exact ⟨fun h m e => h m (mem_allMemos m) (decide_eq_true e), fun h m _ e => h m (of_decide_eq_true e)⟩

/-- Where no two memos carry a channel, the memo that carries it is the one found (R94). -/
theorem memoOf_eq_some (h : (s.memo m).tag = some x) (unique : ∀ n, (s.memo n).tag = some x → n = m) :
    s.memoOf x = some m := by
  cases found : s.memoOf x with
  | none => exact absurd h (memoOf_eq_none.mp found m)
  | some n => rw [unique n (memoOf_tag found)]

theorem inUseLane_isSome : (s.inUseLane x).isSome ↔ ∃ l, s.store.inUse.get l = some x := by
  unfold State.inUseLane
  rw [List.find?_isSome]
  exact ⟨fun ⟨l, _, h⟩ => ⟨l, of_decide_eq_true h⟩, fun ⟨l, h⟩ => ⟨l, mem_allLanes l, decide_eq_true h⟩⟩

/-- A memo of a channel that a lane is counted in use for is held (R92). -/
theorem memoHeld_of_inUse (tag : (s.memo m).tag = some x) (used : s.store.inUse.get l = some x) :
    s.memoHeld m = true := by
  unfold State.memoHeld
  rw [tag]
  exact inUseLane_isSome.mpr ⟨l, used⟩

theorem victim_spec (h : s.victim = some m) : (s.memo m).pinned = false ∧ s.memoHeld m = false := by
  have := List.find?_some (p := fun m => !(s.memo m).pinned && !s.memoHeld m) h
  simpa using this

/-! ## What the operations leave in each memo -/

theorem makeRecent_memo (m n : MemoId) (s : State) : (makeRecent m s).memo n = s.memo n := rfl

theorem allocate_memo (m n : MemoId) (x : PlanIndex) (s : State) : (allocate m x s).memo n =
    if m = n then { tag := some x, pinned := false, fields := Params.absent } else s.memo n :=
  State.setMemo_memo s m n _

theorem writeMemo_memo (f : Params → Params) (m n : MemoId) (s : State) :
    (writeMemo f m s).memo n =
      if m = n then { s.memo m with fields := withRate ((s.memo m).tag.bind s.bandwidth) (f (s.memo m).fields) }
      else s.memo n :=
  State.setMemo_memo s m n _

/-- An operation on every memo of a list leaves the others as they were. -/
theorem memo_forEach {f : MemoId → State → State} (own : ∀ m n t, m ≠ n → (f m t).memo n = t.memo n)
    {items : List MemoId} (out : n ∉ items) : (forEach items f s).memo n = s.memo n :=
  forEach_keeps (P := fun t => t.memo n = s.memo n) items
    (fun m hm t h => (own m n t fun e => out (e ▸ hm)).trans h) rfl

/-- A flush leaves the memos it keeps as they were (R105, R106). -/
theorem flushMemos_memo {keep : MemoId → Bool} (h : keep n = true) : (flushMemos keep s).memo n = s.memo n :=
  memo_forEach (f := fun m t => t.setMemo m Memo.empty) (fun m n t e => by rw [State.setMemo_memo, if_neg e])
    (by simp [h])

/-- A discard leaves the memos of other channels as they were (R7). -/
theorem discardMemo_memo (h : (s.memo n).tag ≠ some x) : (discardMemo x s).memo n = s.memo n := by
  unfold discardMemo
  split
  · rfl
  · next m found =>
    have other : m ≠ n := fun e => h (e ▸ memoOf_tag found)
    exact (State.setMemo_memo s m n Memo.empty).trans (if_neg other)

/-! ## Finding or allocating a channel's memo (R95, R97, R101, R102) -/

/-- The memo of a channel: found and made most recent, or allocated from the victim. -/
inductive Found (s : State) (x : PlanIndex) (m : MemoId) : Bool → State → Prop
  | found (tag : (s.memo m).tag = some x) : Found s x m false (makeRecent m s)
  | allocated (none : ∀ n, (s.memo n).tag ≠ some x) (victim : s.victim = some m) : Found s x m true (allocate m x s)

theorem found_of_findOrAllocate {made : Bool} (h : findOrAllocate x s = some (m, made, t)) : Found s x m made t := by
  unfold findOrAllocate at h
  split at h
  · next tag => cases h; exact .found (memoOf_tag tag)
  · next none =>
    split at h
    · next victim => cases h; exact .allocated (memoOf_eq_none.mp none) victim
    · cases h

theorem Found.tag {made : Bool} (h : Found s x m made t) : (t.memo m).tag = some x := by
  cases h with
  | found tag => exact tag
  | allocated none victim => rw [allocate_memo, if_pos rfl]

/-- Finding or allocating a memo leaves the memos of the channels in use as they were. -/
theorem Found.held {made : Bool} (h : Found s x m made t) (held : s.memoHeld n = true) : t.memo n = s.memo n := by
  cases h with
  | found tag => rfl
  | allocated none victim =>
    have other : m ≠ n := fun e => by
      have unheld := (victim_spec victim).2
      rw [e, held] at unheld
      cases unheld
    rw [allocate_memo, if_neg other]

theorem Found.touches {made : Bool} (h : Found s x m made t) : Touches [.store] s t := by
  cases h with
  | found tag => exact touches_setStore s _
  | allocated none victim => exact touches_allocate s m x

theorem Found.inUse {made : Bool} (h : Found s x m made t) : t.store.inUse = s.store.inUse := by
  cases h <;> rfl

end Sys2Proof.Machine
end

section
/-! A lane's parameter set in step with its memo, and the questions and answers under way between lane and store (R62, R63,
R83, R92, R97 to R101): the law said of one lane, and kept by what a lane or the store does. -/

namespace Sys2Proof.Machine

variable {s t u : State} {x y : Lane} {l k : LaneId} {m n : MemoId} {c : PlanIndex} {asked rest : List StoreMsg}
  {told : List LaneMsg} {used used' : Option PlanIndex}

/-- A question of the lane is current: its lookup has come before the store behind everything it sent before (R63, R97). -/
def LookupWaits (x : Lane) (asked : List StoreMsg) (told : List LaneMsg) (c : PlanIndex) : Prop :=
  sinceRelease asked = [.lookup c] ∧ told.length ≤ x.staleAnswers

/-- The lookup is answered: the answer is the last under way, and the memo it names holds the fields it gives (R97). -/
def LookupAnswered (s : State) (x : Lane) (asked : List StoreMsg) (told : List LaneMsg) (used : Option PlanIndex)
    (c : PlanIndex) : Prop :=
  asked = [] ∧ used = some c ∧ ∃ answer, told.drop x.staleAnswers = [.lookup c answer] ∧
    ∀ a, answer = some a → s.memoHolds a.1 c a.2

/-- What `ParameterLaw` says of one lane: its record, its messages to the store, the answers to it, and the channel the
store counts it in use for. -/
structure InTouch (s : State) (x : Lane) (asked : List StoreMsg) (told : List LaneMsg) (used : Option PlanIndex) :
    Prop where
  rate : ∀ c, x.channel = some c → x.params.streamRate = rateFrom (s.bandwidth c) x.params
  inStep : ∀ c m, x.channel = some c → x.memo = some m → s.memoHolds m c x.params
  counted : told.length + (asked.filter StoreMsg.asks).length =
    x.staleAnswers + x.lookupPending.toNat + x.restartsPending
  whenFree : x.state = .free → sinceRelease asked = [] ∧ x.lookupPending = false ∧ x.restartsPending = 0
  waits : x.WaitsRightly
  lookup : ∀ c, x.channel = some c → x.lookupPending = true →
    x.restartsPending = 0 ∧ x.memo = none ∧ x.params = Params.absent ∧
      (LookupWaits x asked told c ∨ LookupAnswered s x asked told used c)
  restarts : ∀ c, x.channel = some c → x.lookupPending = false →
    used = some c ∧ x.staleAnswers ≤ told.length ∧
      (∀ m ∈ asked, m = .restart c x.params ∨ ∃ k, m = .lock k) ∧
      ∀ a ∈ told.drop x.staleAnswers, a = .restart c none ∨ ∃ m, a = .restart c (some m) ∧ s.memoHolds m c x.params

/-- `ParameterLaw` as it speaks of one lane of the state. -/
def State.inTouch (s : State) (l : LaneId) : Prop :=
  InTouch s (s.lane l) (s.mail.toStore.get l) (s.mail.toLane.get l) (s.store.inUse.get l)

theorem parameterLaw_iff : ParameterLaw s ↔ ∀ l, s.inTouch l :=
  ⟨fun h l => ⟨h.rate l, h.inStep l, h.counted l, h.whenFree l, h.waits l, h.lookup l, h.restarts l⟩,
    fun h => ⟨fun l => (h l).rate, fun l => (h l).inStep, fun l => (h l).counted, fun l => (h l).whenFree,
      fun l => (h l).waits, fun l => (h l).lookup, fun l => (h l).restarts⟩⟩

/-! ## Rates -/

theorem rateFrom_withRate (b b' : Option Bandwidth) (f : Params) : rateFrom b (withRate b' f) = rateFrom b f := rfl

theorem withRate_self {b : Option Bandwidth} {f : Params} (h : f.streamRate = rateFrom b f) : withRate b f = f := by
  unfold withRate
  rw [← h]

theorem rateFrom_absent (b : Option Bandwidth) : rateFrom b Params.absent = none := by cases b <;> rfl

/-! ## What a lane's part of the law does not see -/

/-- A state that shows the lane the same bandwidth, and the memos that hold the channel it is counted in use for. -/
theorem InTouch.world (h : InTouch s x asked told used)
    (bandwidth : ∀ c, x.channel = some c → t.bandwidth c = s.bandwidth c)
    (memos : ∀ c m f, x.channel = some c → used = some c → s.memoHolds m c f → t.memoHolds m c f) :
    InTouch t x asked told used where
  rate c hc := by rw [bandwidth c hc]; exact h.rate c hc
  inStep c m hc hm := by
    refine memos c m _ hc ?_ (h.inStep c m hc hm)
    cases hl : x.lookupPending with
    | true =>
      obtain ⟨-, none, -⟩ := h.lookup c hc hl
      rw [hm] at none
      cases none
    | false => exact (h.restarts c hc hl).1
  counted := h.counted
  whenFree := h.whenFree
  waits := h.waits
  lookup c hc hl := by
    obtain ⟨restarts, memo, params, stands⟩ := h.lookup c hc hl
    refine ⟨restarts, memo, params, stands.imp_right fun ⟨gone, own, answer, last, holds⟩ => ?_⟩
    exact ⟨gone, own, answer, last, fun a ha => memos c _ _ hc own (holds a ha)⟩
  restarts c hc hl := by
    obtain ⟨own, stale, messages, answers⟩ := h.restarts c hc hl
    exact ⟨own, stale, messages, fun a ha => (answers a ha).imp_right fun ⟨m, e, holds⟩ =>
      ⟨m, e, memos c m _ hc own holds⟩⟩

/-- A record with the same channel, memo, parameter set and questions. -/
theorem InTouch.record (h : InTouch s x asked told used) (channel : y.channel = x.channel) (memo : y.memo = x.memo)
    (params : y.params = x.params)
    (questions : y.lookupPending = x.lookupPending ∧ y.restartsPending = x.restartsPending ∧
      y.staleAnswers = x.staleAnswers)
    (free : y.state = .free ↔ x.state = .free) (waits : x.WaitsRightly → y.WaitsRightly) :
    InTouch s y asked told used := by
  obtain ⟨lookup, restarts, stale⟩ := questions
  have := h.waits
  exact {
    rate := by rw [channel, params]; exact h.rate
    inStep := by rw [channel, memo, params]; exact h.inStep
    counted := by rw [lookup, restarts, stale]; exact h.counted
    whenFree := by rw [free, lookup, restarts]; exact h.whenFree
    waits := waits this
    lookup := by
      unfold LookupWaits LookupAnswered
      rw [channel, memo, params, lookup, restarts, stale]
      exact h.lookup
    restarts := by rw [channel, params, lookup, stale]; exact h.restarts }

theorem InTouch.refits (h : InTouch s x asked told used) (k : Lane.Refits x y) : InTouch s y asked told used :=
  h.record k.channel k.memo k.params ⟨k.lookup, k.restarts, k.stale⟩ k.free k.waits

/-! ## Questions under way -/

theorem length_asks_le (m : StoreMsg) (rest : List StoreMsg) :
    (rest.filter StoreMsg.asks).length ≤ ((m :: rest).filter StoreMsg.asks).length := by
  rw [List.filter_cons]
  split <;> simp

/-- What was sent since the last release is part of what was sent. -/
theorem length_asks_sinceRelease (ms : List StoreMsg) :
    ((sinceRelease ms).filter StoreMsg.asks).length ≤ (ms.filter StoreMsg.asks).length := by
  induction ms with
  | nil => exact Nat.le_refl _
  | cons m rest ih =>
    rcases sinceRelease_tail m rest with e | e
    · rw [e]; exact ih.trans (length_asks_le m rest)
    · rw [e]

/-- A busy lane that asks nothing: all its answers to come are past ones, and what it has sent are lock notices. -/
theorem InTouch.settled (h : InTouch s x asked told used) (hc : x.channel = some c) (asks : ¬ x.Asking) :
    x.lookupPending = false ∧ x.restartsPending = 0 ∧ used = some c ∧ told.length = x.staleAnswers ∧
      ∀ m ∈ asked, ∃ k, m = .lock k := by
  obtain ⟨lookup, none⟩ := not_or.mp asks
  have lookup := Bool.eq_false_iff.mpr lookup
  have none : x.restartsPending = 0 := Nat.eq_zero_of_not_pos none
  obtain ⟨own, stale, messages, -⟩ := h.restarts c hc lookup
  have counted := h.counted
  rw [lookup, none, Bool.toNat_false] at counted
  have nothing : asked.filter StoreMsg.asks = [] := List.length_eq_zero_iff.mp (by omega)
  refine ⟨lookup, none, own, by omega, fun m hm => (messages m hm).resolve_left fun e => ?_⟩
  exact List.filter_eq_nil_iff.mp nothing m hm (by rw [e]; rfl)

/-! ## What a lane does -/

/-- A lane that asks nothing writes its parameter set, and its memo takes the same fields (R62, R98). -/
theorem InTouch.writes (h : InTouch s x asked told used) (f : Params → Params) (asks : ¬ x.Asking)
    (busy : x.state ≠ .free) (carries : x.channel.isSome)
    (bandwidth : ∀ c, t.bandwidth c = s.bandwidth c)
    (memo : ∀ c m, x.channel = some c → x.memo = some m →
      t.memoHolds m c (withRate (x.channel.bind s.bandwidth) (f x.params))) :
    InTouch t { x with params := withRate (x.channel.bind s.bandwidth) (f x.params) } asked told used := by
  obtain ⟨c, hc⟩ := Option.isSome_iff_exists.mp carries
  obtain ⟨lookup, none, own, stale, messages⟩ := h.settled hc asks
  refine ⟨fun c' hc' => ?_, memo, h.counted, fun e => absurd e busy, h.waits, fun _ _ on => ?_, fun c' hc' _ => ?_⟩
  · rw [bandwidth, rateFrom_withRate]
    simp only at hc'
    simp only [hc', Option.bind_some]
    rfl
  · simp only [lookup] at on
    cases on
  · obtain rfl : c = c' := Option.some.inj (hc.symm.trans hc')
    refine ⟨own, stale.ge, fun m hm => .inr (messages m hm), fun a ha => ?_⟩
    rw [List.drop_eq_nil_of_le stale.le] at ha
    exact absurd ha List.not_mem_nil

/-- A restart: a memo-less lane whose lookup is answered asks for an allocation (R83, R101). -/
theorem inTouch_restarted (h : InTouch s x asked told used) (busy : x.state ≠ .free) :
    InTouch s (restarted x) (asked ++ restartAsked x) told used := by
  have keep : restartAsked x = [] → InTouch s (restarted x) (asked ++ restartAsked x) told used := fun e => by
    rw [e, List.append_nil]
    refine h.record rfl rfl rfl ⟨rfl, ?_, rfl⟩ ⟨nofun, fun e => absurd e busy⟩ fun _ _ => .inl rfl
    change x.restartsPending + (restartAsked x).length = _
    rw [e]
    rfl
  cases hm : x.memo with
  | some m => exact keep (by unfold restartAsked; rw [hm])
  | none =>
    cases hc : x.channel with
    | none => exact keep (by unfold restartAsked; rw [hm, hc])
    | some c =>
      cases hl : x.lookupPending with
      | true => exact keep (by unfold restartAsked; rw [hm, hc, hl]; rfl)
      | false =>
        have asks : restartAsked x = [.restart c x.params] := by unfold restartAsked; rw [hm, hc, hl]; rfl
        obtain ⟨own, stale, messages, answers⟩ := h.restarts c hc hl
        refine ⟨h.rate, h.inStep, ?_, nofun, fun _ => .inl rfl, fun _ _ on => ?_, fun c' hc' _ => ?_⟩
        · have counted := h.counted
          simp only [restarted, asks, List.filter_append, List.length_append, List.length_cons, List.length_nil]
          have : ([StoreMsg.restart c x.params].filter StoreMsg.asks).length = 1 := rfl
          omega
        · have on : x.lookupPending = true := on
          rw [hl] at on
          cases on
        · obtain rfl : c = c' := Option.some.inj (hc.symm.trans hc')
          refine ⟨own, stale, fun m hm => ?_, answers⟩
          rw [asks, List.mem_append, List.mem_singleton] at hm
          exact hm.elim (messages m) .inl

/-- A release: the answers to come are of an assignment that has ended (R64, R85). -/
theorem inTouch_freed (h : InTouch s x asked told used) (channel : x.channel.isSome ↔ x.state ≠ .free) :
    InTouch s (freed x) (asked ++ releaseNotice x) told used := by
  refine ⟨nofun, nofun, ?_, fun _ => ⟨?_, rfl, rfl⟩, ?_, nofun, nofun⟩
  · have unasked : (releaseNotice x).filter StoreMsg.asks = [] := by unfold releaseNotice; cases x.channel <;> rfl
    rw [List.filter_append, unasked, List.append_nil, h.counted]
    exact unanswered_eq x
  · cases hc : x.channel with
    | none =>
      have free : x.state = .free := Classical.not_not.mp fun busy => by
        have := channel.mpr busy
        rw [hc] at this
        cases this
      unfold releaseNotice
      rw [hc, List.append_nil]
      exact (h.whenFree free).1
    | some c =>
      unfold releaseNotice
      rw [hc]
      exact sinceRelease_append_release asked [] c
  · rintro (e | e) <;> cases e

/-- A lane in sync tells the store so (R99). -/
theorem InTouch.locks (h : InTouch s x asked told used) (m : MemoId) (asks : ¬ x.Asking) (busy : x.state ≠ .free) :
    InTouch s x (asked ++ [.lock m]) told used := by
  refine ⟨h.rate, h.inStep, ?_, fun e => absurd e busy, h.waits, fun _ _ on => absurd (.inl on) asks, fun c hc hl => ?_⟩
  · rw [List.filter_append]
    simpa [StoreMsg.asks] using h.counted
  · obtain ⟨own, stale, messages, answers⟩ := h.restarts c hc hl
    refine ⟨own, stale, fun k hk => ?_, answers⟩
    rcases List.mem_append.mp hk with old | new
    · exact messages k old
    · exact .inr ⟨m, List.mem_singleton.mp new⟩

/-- A FREE lane is assigned a channel: it asks for the channel's memo (R63). -/
theorem inTouch_assigned (h : InTouch s x asked told used) (free : x.state = .free) (c : PlanIndex) :
    InTouch s (assigned c x) (asked ++ [.lookup c]) told used := by
  obtain ⟨since, lookup, none⟩ := h.whenFree free
  have counted := h.counted
  have stale : unansweredBy x = x.staleAnswers := by
    rw [← unanswered_eq]
    unfold Lane.unanswered
    rw [lookup, none]
    rfl
  rw [lookup, none, Bool.toNat_false] at counted
  refine ⟨fun _ _ => (rateFrom_absent _).symm, nofun, ?_, nofun, fun _ => .inl rfl, fun c' hc' _ => ?_, nofun⟩
  · rw [List.filter_append, List.length_append]
    change _ + (_ + 1) = unansweredBy x + 1 + 0
    omega
  · obtain rfl : c = c' := Option.some.inj hc'
    refine ⟨rfl, rfl, rfl, .inl ⟨?_, ?_⟩⟩
    · rw [sinceRelease_append rfl, since]
      rfl
    · change told.length ≤ unansweredBy x
      omega

/-! ## What the store takes from a lane -/

/-- A message at the head that is not of the lane's present questions leaves those as they are. -/
theorem sinceRelease_of_cons {m : StoreMsg} (h : sinceRelease (m :: rest) = [.lookup c]) :
    sinceRelease rest = [.lookup c] ∨ (m = .lookup c ∧ rest = []) := by
  rcases sinceRelease_tail m rest with e | e
  · exact .inl (e ▸ h)
  · rw [e] at h
    exact .inr (List.cons_eq_cons.mp h)

theorem sinceRelease_nil_of_cons {m : StoreMsg} (h : sinceRelease (m :: rest) = []) : sinceRelease rest = [] := by
  rcases sinceRelease_tail m rest with e | e
  · exact e ▸ h
  · rw [e] at h
    cases h

/-- The store takes a lock notice or a release notice (R99, R100). -/
theorem InTouch.pops {m : StoreMsg} (h : InTouch s x (m :: rest) told used) (unasked : m.asks = false)
    (own : used' = used ∨ m.releases = true) : InTouch s x rest told used' := by
  refine ⟨h.rate, h.inStep, ?_, fun e => ?_, h.waits, fun c hc hl => ?_, fun c hc hl => ?_⟩
  · have counted := h.counted
    rwa [List.filter_cons_of_neg (by rw [unasked]; nofun)] at counted
  · obtain ⟨since, rest⟩ := h.whenFree e
    exact ⟨sinceRelease_nil_of_cons since, rest⟩
  · obtain ⟨none, memo, params, stands⟩ := h.lookup c hc hl
    refine ⟨none, memo, params, .inl ?_⟩
    rcases stands with ⟨since, stale⟩ | ⟨gone, -⟩
    · refine ⟨(sinceRelease_of_cons since).resolve_right fun e => ?_, stale⟩
      rw [e.1] at unasked
      cases unasked
    · cases gone
  · obtain ⟨mine, stale, messages, answers⟩ := h.restarts c hc hl
    refine ⟨own.elim (fun e => e.trans mine) fun e => ?_, stale, fun k hk => messages k (List.mem_cons_of_mem m hk),
      answers⟩
    rcases messages m (List.mem_cons_self ..) with rfl | ⟨k, rfl⟩ <;> cases e

/-- The store answers a question of an earlier assignment. -/
theorem InTouch.answersPast {m : StoreMsg} {a : LaneMsg} (h : InTouch s x (m :: rest) told used) (asks : m.asks = true)
    (waits : ∀ c, x.channel = some c → x.lookupPending = true ∧ sinceRelease rest = [.lookup c]) :
    InTouch t x rest (told ++ [a]) used' := by
  have counted := h.counted
  rw [List.filter_cons_of_pos asks, List.length_cons] at counted
  refine ⟨fun c hc => ?_, fun c m hc hm => ?_, ?_, fun e => ?_, h.waits, fun c hc hl => ?_, fun c hc hl => ?_⟩
  · obtain ⟨-, -, absent, -⟩ := h.lookup c hc (waits c hc).1
    rw [absent]
    exact (rateFrom_absent _).symm
  · obtain ⟨-, none, -⟩ := h.lookup c hc (waits c hc).1
    rw [hm] at none
    cases none
  · rw [List.length_append, List.length_singleton]
    omega
  · obtain ⟨since, rest⟩ := h.whenFree e
    exact ⟨sinceRelease_nil_of_cons since, rest⟩
  · obtain ⟨none, memo, params, -⟩ := h.lookup c hc hl
    refine ⟨none, memo, params, .inl ⟨(waits c hc).2, ?_⟩⟩
    have more := length_asks_sinceRelease rest
    rw [(waits c hc).2] at more
    have one : ([StoreMsg.lookup c].filter StoreMsg.asks).length = 1 := rfl
    rw [hl, none, Bool.toNat_true] at counted
    rw [List.length_append, List.length_singleton]
    omega
  · rw [(waits c hc).1] at hl
    cases hl

/-- The store answers the lookup of the lane's present assignment (R97). -/
theorem InTouch.answersLookup {answer : Option (MemoId × Params)} (h : InTouch s x [.lookup c] told used)
    (hc : x.channel = some c) (hl : x.lookupPending = true) (holds : ∀ a, answer = some a → t.memoHolds a.1 c a.2) :
    InTouch t x [] (told ++ [.lookup c answer]) (some c) := by
  obtain ⟨none, memo, absent, -⟩ := h.lookup c hc hl
  have counted := h.counted
  have one : ([StoreMsg.lookup c].filter StoreMsg.asks).length = 1 := rfl
  rw [one, hl, none, Bool.toNat_true] at counted
  have stale : told.length = x.staleAnswers := by omega
  refine ⟨fun _ _ => ?_, fun _ _ _ hm => ?_, ?_, fun e => ?_, h.waits, fun c' hc' _ => ?_, fun _ _ off => ?_⟩
  · rw [absent]
    exact (rateFrom_absent _).symm
  · rw [memo] at hm
    cases hm
  · rw [hl, none, List.length_append, List.length_singleton, List.filter_nil, List.length_nil, Bool.toNat_true]
    omega
  · have off := (h.whenFree e).2.1
    rw [hl] at off
    cases off
  · obtain rfl : c = c' := Option.some.inj (hc.symm.trans hc')
    refine ⟨none, memo, absent, .inr ⟨rfl, rfl, answer, ?_, holds⟩⟩
    rw [← stale, List.drop_left]
  · rw [hl] at off
    cases off

/-- The store answers a restart allocation of the lane's own fields (R101). -/
theorem InTouch.answersRestart {answer : Option MemoId} (h : InTouch s x (.restart c x.params :: rest) told used)
    (hc : x.channel = some c) (hl : x.lookupPending = false)
    (bandwidth : t.bandwidth c = s.bandwidth c)
    (memos : ∀ m, s.memoHolds m c x.params → t.memoHolds m c x.params)
    (holds : ∀ m, answer = some m → t.memoHolds m c x.params) :
    InTouch t x rest (told ++ [.restart c answer]) used := by
  obtain ⟨own, stale, messages, answers⟩ := h.restarts c hc hl
  have same : ∀ {c'}, x.channel = some c' → c' = c := fun hc' => Option.some.inj (hc'.symm.trans hc)
  refine ⟨fun c' hc' => ?_, fun c' m hc' hm => ?_, ?_, fun e => ?_, h.waits, fun _ _ on => ?_, fun c' hc' _ => ?_⟩
  · cases same hc'
    rw [bandwidth]
    exact h.rate c hc
  · cases same hc'
    exact memos m (h.inStep c m hc hm)
  · have counted := h.counted
    rw [List.filter_cons_of_pos rfl, List.length_cons] at counted
    rw [List.length_append, List.length_singleton]
    omega
  · obtain ⟨since, rest⟩ := h.whenFree e
    exact ⟨sinceRelease_nil_of_cons since, rest⟩
  · rw [hl] at on
    cases on
  · cases same hc'
    refine ⟨own, ?_, fun m hm => messages m (List.mem_cons_of_mem _ hm), fun a ha => ?_⟩
    · rw [List.length_append]
      omega
    · rw [List.drop_append_of_le_length stale] at ha
      rcases List.mem_append.mp ha with old | new
      · exact (answers a old).imp_right fun ⟨m, e, kept⟩ => ⟨m, e, memos m kept⟩
      · rw [List.mem_singleton.mp new]
        cases answer with
        | none => exact .inl rfl
        | some m => exact .inr ⟨m, rfl, holds m rfl⟩

/-! ## What a lane takes from the store -/

/-- An answer that does not concern the lane is of an earlier assignment (R64). -/
theorem InTouch.discards {a : LaneMsg} {answers : List LaneMsg} (h : InTouch s x asked (a :: answers) used)
    (channel : x.channel.isSome ↔ x.state ≠ .free)
    (past : ¬ (x.state ≠ .free ∧ x.channel = some a.channel ∧ x.staleAnswers = 0)) :
    InTouch s x.pastAnswer asked answers used := by
  have stale : 0 < x.staleAnswers := Nat.pos_of_ne_zero fun zero => by
    have counted := h.counted
    by_cases free : x.state = .free
    · obtain ⟨-, lookup, none⟩ := h.whenFree free
      rw [zero, lookup, none, List.length_cons, Bool.toNat_false] at counted
      omega
    · obtain ⟨c, hc⟩ := Option.isSome_iff_exists.mp (channel.mpr free)
      have concerns : a.channel = c → False := fun e => past ⟨free, by rw [hc, e], zero⟩
      cases hl : x.lookupPending with
      | true =>
        obtain ⟨-, -, -, ⟨-, few⟩ | ⟨-, -, answer, last, -⟩⟩ := h.lookup c hc hl
        · rw [zero, List.length_cons] at few
          omega
        · rw [zero, List.drop_zero] at last
          exact concerns (by rw [(List.cons_eq_cons.mp last).1]; rfl)
      | false =>
        obtain ⟨-, -, -, all⟩ := h.restarts c hc hl
        rw [zero, List.drop_zero] at all
        rcases all a (List.mem_cons_self ..) with rfl | ⟨m, rfl, -⟩ <;> exact concerns rfl
  obtain ⟨n, hn⟩ := Nat.exists_eq_succ_of_ne_zero (Nat.pos_iff_ne_zero.mp stale)
  have less : x.pastAnswer.staleAnswers = n := by
    change x.staleAnswers - 1 = n
    omega
  have dropped : (a :: answers).drop x.staleAnswers = answers.drop n := by rw [hn]; rfl
  refine ⟨h.rate, h.inStep, ?_, h.whenFree, h.waits, fun c hc hl => ?_, fun c hc hl => ?_⟩
  · have counted := h.counted
    rw [List.length_cons] at counted
    rw [less]
    change _ = n + x.lookupPending.toNat + x.restartsPending
    omega
  · obtain ⟨none, memo, params, stands⟩ := h.lookup c hc hl
    refine ⟨none, memo, params, stands.imp (fun ⟨since, few⟩ => ⟨since, ?_⟩) fun ⟨gone, own, answer, last, holds⟩ =>
      ⟨gone, own, answer, ?_, holds⟩⟩
    · rw [less]
      rw [List.length_cons] at few
      omega
    · rw [less, ← dropped]
      exact last
  · obtain ⟨own, few, messages, all⟩ := h.restarts c hc hl
    refine ⟨own, ?_, messages, ?_⟩
    · rw [less]
      rw [List.length_cons] at few
      omega
    · rw [less, ← dropped]
      exact all

/-- The lane takes the answer to its lookup (R64): the memo holds the fields that the answer gives, at their rate. -/
theorem InTouch.takesLookup {answer : Option (MemoId × Params)} {answers : List LaneMsg}
    (h : InTouch s x asked (.lookup c answer :: answers) used) (busy : x.state ≠ .free) (hc : x.channel = some c)
    (zero : x.staleAnswers = 0)
    (rates : ∀ m f, s.memoHolds m c f → f.streamRate = rateFrom (s.bandwidth c) f) :
    InTouch s (x.lookedUp answer) asked answers used := by
  have hl : x.lookupPending = true := by
    by_contra off
    obtain ⟨-, -, -, all⟩ := h.restarts c hc (Bool.eq_false_iff.mpr off)
    rw [zero, List.drop_zero] at all
    rcases all _ (List.mem_cons_self ..) with e | ⟨m, e, -⟩ <;> cases e
  obtain ⟨none, -, -, stands⟩ := h.lookup c hc hl
  obtain ⟨-, few⟩ | ⟨rfl, own, given, last, holds⟩ := stands
  · rw [zero, List.length_cons] at few
    omega
  rw [zero, List.drop_zero] at last
  obtain ⟨e, rfl⟩ := List.cons_eq_cons.mp last
  obtain ⟨-, rfl⟩ := LaneMsg.lookup.inj e
  have same : ∀ {c'}, x.channel = some c' → c' = c := fun hc' => Option.some.inj (hc'.symm.trans hc)
  refine ⟨fun c' hc' => ?_, fun c' m hc' hm => ?_, ?_, fun e => absurd e busy, ?_, fun _ _ on => (nomatch on),
    fun c' hc' _ => ?_⟩
  · cases same hc'
    cases answer with
    | none => exact (rateFrom_absent _).symm
    | some a => exact rates a.1 a.2 (holds a rfl)
  · cases same hc'
    cases answer with
    | none => cases hm
    | some a => exact Option.some.inj hm ▸ holds a rfl
  · change 0 = x.staleAnswers + 0 + x.restartsPending
    omega
  · rintro (e | e)
    · cases e
    · change 0 < x.restartsPending at e
      omega
  · cases same hc'
    refine ⟨own, Nat.le_of_eq zero, fun m hm => absurd hm List.not_mem_nil, fun a ha => ?_⟩
    rw [List.drop_nil] at ha
    exact absurd ha List.not_mem_nil

/-- The lane takes the answer to a restart allocation (R83). -/
theorem InTouch.takesRestart {answer : Option MemoId} {answers : List LaneMsg}
    (h : InTouch s x asked (.restart c answer :: answers) used) (busy : x.state ≠ .free) (hc : x.channel = some c)
    (zero : x.staleAnswers = 0) : InTouch s (x.allocated answer) asked answers used := by
  have hl : x.lookupPending = false := Bool.eq_false_iff.mpr fun on => by
    obtain ⟨-, -, -, ⟨-, few⟩ | ⟨-, -, given, last, -⟩⟩ := h.lookup c hc on
    · rw [zero, List.length_cons] at few
      omega
    · rw [zero, List.drop_zero] at last
      cases (List.cons_eq_cons.mp last).1
  obtain ⟨own, -, messages, all⟩ := h.restarts c hc hl
  rw [zero, List.drop_zero] at all
  have counted := h.counted
  rw [zero, hl, List.length_cons, Bool.toNat_false] at counted
  have same : ∀ {c'}, x.channel = some c' → c' = c := fun hc' => Option.some.inj (hc'.symm.trans hc)
  refine ⟨h.rate, fun c' m hc' hm => ?_, ?_, fun e => absurd e busy, fun asks => h.waits ?_, fun _ _ on => ?_,
    fun c' hc' _ => ?_⟩
  · cases same hc'
    change answer = some m at hm
    subst hm
    rcases all _ (List.mem_cons_self ..) with e | ⟨m', e, holds⟩
    · cases e
    · cases e
      exact holds
  · change _ = x.staleAnswers + x.lookupPending.toNat + (x.restartsPending - 1)
    rw [zero, hl, Bool.toNat_false]
    omega
  · exact asks.imp_right fun more => Nat.lt_of_lt_of_le more (Nat.sub_le ..)
  · change x.lookupPending = true at on
    rw [hl] at on
    cases on
  · cases same hc'
    refine ⟨own, zero ▸ Nat.zero_le _, messages, ?_⟩
    change ∀ a ∈ answers.drop x.staleAnswers, _
    rw [zero, List.drop_zero]
    exact fun a ha => all a (List.mem_cons_of_mem _ ha)

end Sys2Proof.Machine
end

section
/-! Parameter sets and memos in step (R62, R93, R98), through the moves of the lanes. -/

namespace Sys2Proof.Machine

variable {s t u : State} {x y : Lane} {l k : LaneId} {m n : MemoId} {c : PlanIndex} {p : Port}
  {asked : List StoreMsg} {told : List LaneMsg} {used : Option PlanIndex}

/-- One lane's record, its messages to the store, the answers to it and the channel it is counted in use for are set; those
of the other lanes and the plan entries stay. -/
structure LaneChange (s t : State) (l : LaneId) (x : Lane) (asked : List StoreMsg) (told : List LaneMsg)
    (used : Option PlanIndex) : Prop where
  lanes : ∀ k, t.lane k = if l = k then x else s.lane k
  toStore : t.mail.toStore = Tab.put s.mail.toStore l asked
  toLane : t.mail.toLane = Tab.put s.mail.toLane l told
  inUse : t.store.inUse = Tab.put s.store.inUse l used
  entries : t.plan.entries = s.plan.entries

/-- A lane that acts by itself: its record changes and it sends messages to the store. -/
theorem LaneChange.speaks {tells : List StoreMsg} (lanes : ∀ k, t.lane k = if l = k then x else s.lane k)
    (toStore : t.mail.toStore = Tab.put s.mail.toStore l (s.mail.toStore.get l ++ tells))
    (toLane : t.mail.toLane = s.mail.toLane) (inUse : t.store.inUse = s.store.inUse) (plan : t.plan = s.plan) :
    LaneChange s t l x (s.mail.toStore.get l ++ tells) (s.mail.toLane.get l) (s.store.inUse.get l) :=
  ⟨lanes, toStore, by rw [toLane, Tab.put_get], by rw [inUse, Tab.put_get], by rw [plan]⟩

/-- The same, with nothing sent. -/
theorem LaneChange.silent (lanes : ∀ k, t.lane k = if l = k then x else s.lane k) (mail : t.mail = s.mail)
    (inUse : t.store.inUse = s.store.inUse) (plan : t.plan = s.plan) :
    LaneChange s t l x (s.mail.toStore.get l) (s.mail.toLane.get l) (s.store.inUse.get l) :=
  ⟨lanes, by rw [mail, Tab.put_get], by rw [mail, Tab.put_get], by rw [inUse, Tab.put_get], by rw [plan]⟩

theorem bandwidth_congr (h : t.plan.entries = s.plan.entries) (c : PlanIndex) : t.bandwidth c = s.bandwidth c := by
  unfold State.bandwidth State.entry
  rw [h]

theorem memoHolds_congr {f : Params} (h : (t.memo m).tag = (s.memo m).tag ∧ (t.memo m).fields = (s.memo m).fields)
    (holds : s.memoHolds m c f) : t.memoHolds m c f :=
  ⟨h.1.trans holds.1, h.2.trans holds.2⟩

theorem memo_congr (h : t.store = s.store) (m : MemoId) :
    (t.memo m).tag = (s.memo m).tag ∧ (t.memo m).fields = (s.memo m).fields := by
  unfold State.memo
  rw [h]
  exact ⟨rfl, rfl⟩

/-- Where one lane's part changes, the law is to be shown of that lane, and the memos of the channels that the other lanes
carry and are counted in use for stay. -/
theorem ParameterLaw.change (h : ParameterLaw s) (change : LaneChange s t l x asked told used)
    (own : InTouch t x asked told used)
    (memos : ∀ k, l ≠ k → ∀ c m f, (s.lane k).channel = some c → s.store.inUse.get k = some c →
      s.memoHolds m c f → t.memoHolds m c f) : ParameterLaw t := by
  refine parameterLaw_iff.mpr fun k => ?_
  unfold State.inTouch
  rw [change.lanes, change.toStore, change.toLane, change.inUse, Tab.get_put, Tab.get_put, Tab.get_put]
  by_cases e : l = k
  · rw [if_pos e, if_pos e, if_pos e, if_pos e]
    exact own
  · rw [if_neg e, if_neg e, if_neg e, if_neg e]
    exact (parameterLaw_iff.mp h k).world (fun c _ => bandwidth_congr change.entries c) (memos k e)

/-- The same, where no memo changes. -/
theorem ParameterLaw.speak (h : ParameterLaw s) (change : LaneChange s t l x asked told used)
    (own : InTouch s x asked told used) (store : t.store = s.store) : ParameterLaw t :=
  have same : ∀ c m f, s.memoHolds m c f → t.memoHolds m c f := fun _ m _ => memoHolds_congr (memo_congr store m)
  h.change change (own.world (fun c _ => bandwidth_congr change.entries c) fun c m f _ _ => same c m f)
    fun _ _ c m f _ _ => same c m f

theorem ParameterLaw.steady (h : ParameterLaw s) (k : Steady s t) : ParameterLaw t := by
  refine parameterLaw_iff.mpr fun l => ?_
  unfold State.inTouch
  rw [k.toStore, k.toLane, k.inUse]
  exact ((parameterLaw_iff.mp h l).refits (k.lanes l)).world (fun c _ => bandwidth_congr k.entries c)
    fun c m f _ _ => memoHolds_congr (k.memos m)

/-! ## What a lane writes (R62, R98) -/

theorem writeFields_memo (f : Params → Params) (l : LaneId) (n : MemoId) (s : State) :
    (writeFields f l s).memo n =
      if (s.lane l).memo = some n then
        { s.memo n with fields := withRate ((s.memo n).tag.bind s.bandwidth) (f (s.memo n).fields) }
      else s.memo n := by
  unfold writeFields
  simp only
  split
  · next none => rw [none]; rfl
  · next m has =>
    rw [writeMemo_memo, has]
    by_cases e : m = n
    · rw [if_pos e, if_pos (congrArg some e), e]; rfl
    · rw [if_neg e, if_neg fun eq => e (Option.some.inj eq)]; rfl

theorem writeFields_inUse (f : Params → Params) (l : LaneId) (s : State) :
    (writeFields f l s).store.inUse = s.store.inUse := by
  unfold writeFields
  simp only
  split <;> rfl

theorem parameterLaw_writes (law : SharingLaw s) (h : ParameterLaw s) (f : Params → Params)
    (d : (s.lane l).state.demodulates = true) : ParameterLaw (writeFields f l s) := by
  have own := parameterLaw_iff.mp h l
  have busy := LaneState.busy_of_demodulates d
  have plan : (writeFields f l s).plan = s.plan := (touches_writeFields s f l).same .plan (by decide)
  have asks : ¬ (s.lane l).Asking := own.waits.not_asking d
  refine h.change (.silent (writeFields_lane f l · s) ((touches_writeFields s f l).same .mail (by decide))
    (writeFields_inUse f l s) plan) (own.writes f asks busy ((law.channelWhenBusy l).mpr busy)
      (bandwidth_congr (by rw [plan])) fun c m hc hm => ?_) fun k other c m g hk _ holds => ?_
  · obtain ⟨tag, fields⟩ := h.inStep l c m hc hm
    unfold State.memoHolds
    rw [writeFields_memo, if_pos hm, tag, fields, hc]
    exact ⟨rfl, rfl⟩
  · refine memoHolds_congr (t := writeFields f l s) ?_ holds
    rw [writeFields_memo, if_neg fun own => ?_]
    · exact ⟨rfl, rfl⟩
    · obtain ⟨c', hc'⟩ := Option.isSome_iff_exists.mp ((law.channelWhenBusy l).mpr busy)
      have tag := (h.inStep l c' m hc' own).1
      rw [holds.1] at tag
      exact other (law.oneLane l k c' hc' (tag ▸ hk))

/-! ## The moves -/

theorem freeLane_mail (l : LaneId) (s : State) :
    (freeLane l s).mail.toStore = Tab.put s.mail.toStore l (s.mail.toStore.get l ++ releaseNotice (s.lane l)) ∧
      (freeLane l s).mail.toLane = s.mail.toLane := by
  unfold freeLane releaseNotice
  cases (s.lane l).channel <;> simp [State.modLane]

theorem parameterLaw_restarts (h : ParameterLaw s) (busy : (s.lane l).state ≠ .free) : ParameterLaw (restartLane l s) := by
  have touched := touches_restartLane s l
  have store : (restartLane l s).store = s.store := touched.same .store (by decide)
  have own := (inTouch_restarted (parameterLaw_iff.mp h l) busy).refits (refits_leftWait s _)
  rw [← restarted_eq_leftWait] at own
  have mail := restartLane_mail l s
  exact h.speak (.speaks (restartLane_lane s l ·) (by rw [mail]; rfl) (by rw [mail]; rfl) (by rw [store])
    (touched.same .plan (by decide))) own store

theorem parameterLaw_frees (law : SharingLaw s) (h : ParameterLaw s) : ParameterLaw (freeLane l s) := by
  have touched := touches_freeLane s l
  have store : (freeLane l s).store = s.store := touched.same .store (by decide)
  have own := inTouch_freed (parameterLaw_iff.mp h l) (law.channelWhenBusy l)
  rw [← released_eq_freed] at own
  obtain ⟨toStore, toLane⟩ := freeLane_mail l s
  exact h.speak (.speaks (freeLane_lane s l ·) toStore toLane (by rw [store]) (touched.same .plan (by decide))) own store

theorem parameterLaw_assigns (h : ParameterLaw s) (rate : Option Nat) (idle : (s.lane l).state = .free) :
    ParameterLaw (assignLane l c rate s) := by
  have touched := touches_assignLane s l c rate
  have store : (assignLane l c rate s).store = s.store := touched.same .store (by decide)
  have mail := assignLane_mail l c rate s
  exact h.speak (.speaks (fun k => assignLane_lane c rate) (by rw [mail]; rfl) (by rw [mail]; rfl) (by rw [store])
    (touched.same .plan (by decide))) (inTouch_assigned (parameterLaw_iff.mp h l) idle c) store

/-- The lane's linger is no part of the law. -/
theorem parameterLaw_linger {linger : Option Time} (h : ParameterLaw s)
    (lanes : ∀ k, t.lane k = if l = k then { s.lane l with lingerStart := linger } else s.lane k)
    (mail : t.mail = s.mail) (store : t.store = s.store) (plan : t.plan = s.plan) : ParameterLaw t :=
  h.speak (.silent lanes mail (by rw [store]) plan)
    ((parameterLaw_iff.mp h l).record rfl rfl rfl ⟨rfl, rfl, rfl⟩ Iff.rfl id) store

theorem ParameterLaw.enrolls (h : ParameterLaw s) (i : SubId) (v : Sub) : ParameterLaw (enrollSub p i v s) :=
  ⟨h.rate, h.inStep, h.counted, h.whenFree, h.waits, h.lookup, h.restarts⟩

theorem parameterLaw_move (law : SharingLaw s) (h : ParameterLaw s) (m : Move s t) : ParameterLaw t := by
  cases m with
  | steady k => exact h.steady k
  | writes f l d => exact parameterLaw_writes law h f d
  | restarts l busy => exact parameterLaw_restarts h busy
  | frees l unshared => exact parameterLaw_frees law h
  | drops p i v hv => exact ⟨h.rate, h.inStep, h.counted, h.whenFree, h.waits, h.lookup, h.restarts⟩
  | lingers l time busy unshared => exact parameterLaw_linger h (State.setLane_lane s l · _) rfl rfl rfl
  | locks l m d =>
    have own := parameterLaw_iff.mp h l
    refine h.speak (.speaks (x := s.lane l) (fun k => ?_) rfl rfl rfl rfl)
      (own.locks m (own.waits.not_asking d) (LaneState.busy_of_demodulates d)) rfl
    split
    · next e => rw [← e]; rfl
    · rfl
  | joins p i v free carries fresh =>
    exact (parameterLaw_linger h (raiseShare_lane v.lane · s) rfl rfl rfl).enrolls i v
  | assigns p i v rate free idle unheld fresh => exact (parameterLaw_assigns h rate idle).enrolls i v

end Sys2Proof.Machine
end

section
/-! Parameter sets and memos in step (R62, R93, R98, R101), through the memo store's commands, the answers and the resets;
and through every step. -/

namespace Sys2Proof.Machine

variable {s t u : State} {x y : Lane} {l k : LaneId} {m n : MemoId} {c i : PlanIndex} {p : Port}
  {rest : List StoreMsg}

/-! ## Commands that no lane is a party to -/

/-- The lanes, their questions and answers, and the channels they are counted in use for stay; so do the bandwidth and the
memos of the channels they carry. -/
structure Tended (s t : State) : Prop where
  lanes : ∀ l, t.lane l = s.lane l
  toStore : t.mail.toStore = s.mail.toStore
  toLane : t.mail.toLane = s.mail.toLane
  inUse : t.store.inUse = s.store.inUse
  bandwidth : ∀ l c, (s.lane l).channel = some c → t.bandwidth c = s.bandwidth c
  memos : ∀ l m c f, (s.lane l).channel = some c → s.store.inUse.get l = some c → s.memoHolds m c f → t.memoHolds m c f

theorem ParameterLaw.tended (h : ParameterLaw s) (k : Tended s t) : ParameterLaw t := by
  refine parameterLaw_iff.mpr fun l => ?_
  unfold State.inTouch
  rw [k.lanes, k.toStore, k.toLane, k.inUse]
  exact (parameterLaw_iff.mp h l).world (k.bandwidth l) fun c m f => k.memos l m c f

/-- A change to memos alone that leaves the held ones as they were. -/
theorem Tended.of_held (touches : Touches [.store] s t) (inUse : t.store.inUse = s.store.inUse)
    (held : ∀ n, s.memoHeld n = true → t.memo n = s.memo n) : Tended s t where
  lanes l := by
    have lanes : t.lanes = s.lanes := touches.same .lanes (by decide)
    unfold State.lane
    rw [lanes]
  toStore := by rw [show t.mail = s.mail from touches.same .mail (by decide)]
  toLane := by rw [show t.mail = s.mail from touches.same .mail (by decide)]
  inUse := inUse
  bandwidth l c _ := bandwidth_congr (by rw [show t.plan = s.plan from touches.same .plan (by decide)]) c
  memos l m c f _ used holds :=
    memoHolds_congr (by rw [held m (memoHeld_of_inUse holds.1 used)]; exact ⟨rfl, rfl⟩) holds

/-- A lane that carries a channel is not FREE, so a channel held by none is carried by none. -/
theorem channel_ne_of_unheld (law : SharingLaw s) (h : s.holdingLane i = none) : (s.lane l).channel ≠ some i :=
  fun hc => holdingLane_eq_none.mp h l ((law.channelWhenBusy l).mp (by rw [hc]; rfl)) hc

theorem parameterLaw_planWrite (law : SharingLaw s) (h : ParameterLaw s) (body : List Byte) :
    ParameterLaw (planWrite p body s) := by
  unfold planWrite
  split
  · exact h.steady (steady_respond p _ _)
  · split
    · exact h.steady (steady_respond p _ _)
    · split
      · exact h.steady (steady_respond p _ _)
      · next unheld =>
        refine h.tended ⟨fun _ => rfl, rfl, rfl, rfl, fun l c hc => ?_, fun _ _ _ _ _ _ holds => holds⟩
        unfold State.bandwidth State.entry
        rw [State.setPlan_plan, Tab.get_put_other]
        rintro rfl
        exact channel_ne_of_unheld law unheld hc

theorem parameterLaw_planDiscard (law : SharingLaw s) (plan : PlanLaw s) (h : ParameterLaw s) {d : DiscardAsk}
    (asked : s.plan.discard = some d) : ParameterLaw (planDiscard d s) := by
  have unset : ParameterLaw (s.setPlan { s.plan with discard := none }) :=
    ⟨h.rate, h.inStep, h.counted, h.whenFree, h.waits, h.lookup, h.restarts⟩
  have touched := touches_discardMemo (s.setPlan { s.plan with discard := none }) d.index
  have discarded : ParameterLaw (discardMemo d.index (s.setPlan { s.plan with discard := none })) := by
    refine unset.tended ⟨fun l => ?_, ?_, ?_, ?_, fun l c _ => ?_, fun l m c f hc _ holds => ?_⟩
    · exact congrArg (fun v : Vector Lane 6 => v.get l) (touched.same .lanes (by decide))
    · exact congrArg Mail.toStore (touched.same .mail (by decide))
    · exact congrArg Mail.toLane (touched.same .mail (by decide))
    · unfold discardMemo
      split <;> rfl
    · exact bandwidth_congr (congrArg PlanBlock.entries (touched.same .plan (by decide))) c
    · have busy := (law.channelWhenBusy l).mp (by rw [show (s.lane l).channel = some c from hc]; rfl)
      have past := plan.busy l c busy hc
      rw [asked] at past
      have other : ((s.setPlan { s.plan with discard := none }).memo m).tag ≠ some d.index := fun tag =>
        past (tag.symm.trans holds.1)
      refine memoHolds_congr ?_ holds
      rw [discardMemo_memo other]
      exact ⟨rfl, rfl⟩
  unfold planDiscard
  simp only
  split
  exacts [discarded, discarded.steady (steady_respond _ _ _)]

theorem parameterLaw_memoPin (h : ParameterLaw s) (body : List Byte) : ParameterLaw (memoPin p body s) := by
  unfold memoPin
  split
  · exact h.steady (steady_respond p _ _)
  · split
    · exact h.steady (steady_respond p _ _)
    · split
      · exact h.steady (steady_respond p _ _)
      · next found =>
        have found := found_of_findOrAllocate found
        exact (h.tended (.of_held found.touches found.inUse fun n => found.held)).steady
          ((steady_setPin true _).respond p _ _)

theorem flushMemos_inUse (keep : MemoId → Bool) (s : State) : (flushMemos keep s).store.inUse = s.store.inUse :=
  forEach_keeps (P := fun t => t.store.inUse = s.store.inUse) _ (fun _ _ _ same => same) rfl

theorem parameterLaw_flushMemos (h : ParameterLaw s) {keep : MemoId → Bool} (held : ∀ n, s.memoHeld n = true → keep n = true) :
    ParameterLaw (flushMemos keep s) :=
  h.tended (.of_held (touches_flushMemos s keep) (flushMemos_inUse keep s) fun n hn => flushMemos_memo (held n hn))

/-- A seed writes a memo of a channel that no lane is counted in use for (R108). -/
theorem parameterLaw_writeSeed (h : ParameterLaw s) (b : SeedBody) (tag : (s.memo m).tag = some i)
    (unused : s.inUseLane i = none) : ParameterLaw (writeSeed b m s) := by
  have other : ∀ {n}, s.memoHeld n = true → m ≠ n := fun {n} held e => by
    unfold State.memoHeld at held
    rw [← e, tag] at held
    simp only [unused] at held
    cases held
  unfold writeSeed
  split
  · refine h.tended (.of_held (touches_writeMemo s _ m) rfl fun n held => ?_)
    rw [writeMemo_memo, if_neg (other held)]
  · exact h.tended (.of_held (touches_setMemo s m _) rfl fun n held =>
      (State.setMemo_memo s m n _).trans (if_neg (other held)))

theorem parameterLaw_memoSeed (h : ParameterLaw s) (body : List Byte) : ParameterLaw (memoSeed p body s) := by
  unfold memoSeed
  split
  · exact h.steady (steady_respond p _ _)
  · split
    · exact h.steady (steady_respond p _ _)
    · next i m named =>
      split
      · exact h.steady (steady_respond p _ _)
      · next unused =>
        refine (parameterLaw_writeSeed h _ (i := i) ?_ unused).steady (steady_respond p _ _)
        unfold State.namedMemo at named
        split at named
        · cases named
        · split at named
          · cases named
          · next found => cases named; exact memoOf_tag found

/-! ## The store takes a lane's messages (R96 to R101) -/

theorem lane_self (s : State) (l k : LaneId) : s.lane k = if l = k then s.lane l else s.lane k := by
  split
  · next e => rw [e]
  · rfl

theorem waiting_of_storeMsg {q : StoreMsg} (h : s.storeMsg l = some q) :
    s.mail.toStore.get l = q :: (s.mail.toStore.get l).tail :=
  (List.cons_head?_tail h).symm

/-- The store takes a message, answers it or not, and changes its memos. -/
theorem LaneChange.taken {told : List LaneMsg} {used : Option PlanIndex} (touches : Touches [.store, .mail] s t)
    (toStore : t.mail.toStore = Tab.put s.mail.toStore l rest) (toLane : t.mail.toLane = Tab.put s.mail.toLane l told)
    (inUse : t.store.inUse = Tab.put s.store.inUse l used) : LaneChange s t l (s.lane l) rest told used := by
  have lanes : t.lanes = s.lanes := touches.same .lanes (by decide)
  have plan : t.plan = s.plan := touches.same .plan (by decide)
  refine ⟨fun k => ?_, toStore, toLane, inUse, by rw [plan]⟩
  rw [← lane_self]
  unfold State.lane
  rw [lanes]

/-- The store has taken a message, and answers it. -/
theorem LaneChange.answered {used : Option PlanIndex} (touches : Touches [.store, .mail] s u)
    (mail : u.mail = (popStore l s).mail) (inUse : u.store.inUse = Tab.put s.store.inUse l used) (a : LaneMsg) :
    LaneChange s (answerLane l a u) l (s.lane l) (s.mail.toStore.get l).tail (s.mail.toLane.get l ++ [a]) used := by
  have touched := touches_answerLane u l a
  have store : (answerLane l a u).store = u.store := touched.same .store (by decide)
  have toStore : (answerLane l a u).mail.toStore = u.mail.toStore := rfl
  have toLane : (answerLane l a u).mail.toLane = Tab.put u.mail.toLane l (u.mail.toLane.get l ++ [a]) := rfl
  refine .taken (touches.trans (touched.mono (by decide))) ?_ ?_ ?_
  · rw [toStore, mail]; rfl
  · rw [toLane, mail]; rfl
  · rw [store, inUse]

/-- A notice is taken: a lock notice, or a release notice with which the lane is in use no longer. -/
theorem parameterLaw_pops {q : StoreMsg} (h : ParameterLaw s) (head : s.storeMsg l = some q) (unasked : q.asks = false)
    {used : Option PlanIndex} (own : used = s.store.inUse.get l ∨ q.releases = true)
    (inUse : t.store.inUse = Tab.put s.store.inUse l used) (memos : t.store.memos = s.store.memos)
    (touches : Touches [.store, .mail] s t) (mail : t.mail = (popStore l s).mail) : ParameterLaw t := by
  have taken : LaneChange s t l (s.lane l) (s.mail.toStore.get l).tail (s.mail.toLane.get l) used :=
    .taken touches (by rw [mail]; rfl) (by rw [mail, Tab.put_get]; rfl) inUse
  have same : ∀ c m f, s.memoHolds m c f → t.memoHolds m c f := fun _ m _ => by
    refine memoHolds_congr ?_
    unfold State.memo
    rw [memos]
    exact ⟨rfl, rfl⟩
  have before := parameterLaw_iff.mp h l
  unfold State.inTouch at before
  rw [waiting_of_storeMsg head] at before
  refine h.change taken (((before.world (fun c _ => bandwidth_congr taken.entries c)
    fun c m f _ _ => same c m f).pops unasked own)) fun _ _ c m f _ _ => same c m f

/-- The store's answer to a lookup: what it says holds of the memo, and the memos held by then stay (R97). -/
structure LookupTaken (s u : State) (i : PlanIndex) (answer : Option (MemoId × Params)) : Prop where
  touches : Touches [.store] s u
  inUse : u.store.inUse = s.store.inUse
  held : ∀ n, s.memoHeld n = true → u.memo n = s.memo n
  holds : ∀ a, answer = some a → u.memoHolds a.1 i a.2

theorem lookupMemo_taken (l : LaneId) (i : PlanIndex) (s : State) : ∃ answer u,
    lookupMemo l i s = answerLane l (.lookup i answer) u ∧ LookupTaken (setInUse l (some i) s) u i answer := by
  unfold lookupMemo
  simp only
  split
  · exact ⟨_, _, rfl, Touches.refl _ _, rfl, fun _ _ => rfl, fun _ e => nomatch e⟩
  · next m made u found =>
    have found := found_of_findOrAllocate found
    refine ⟨_, _, rfl, found.touches, found.inUse, fun n => found.held, fun a ha => ?_⟩
    cases ha
    exact ⟨found.tag, rfl⟩

theorem parameterLaw_lookup (h : ParameterLaw s) (head : s.storeMsg l = some (.lookup i)) :
    ParameterLaw (lookupMemo l i (popStore l s)) := by
  obtain ⟨answer, u, e, done⟩ := lookupMemo_taken l i (popStore l s)
  have counted : Touches [.store, .mail] s (setInUse l (some i) (popStore l s)) :=
    ((touches_setMail s _).mono (by decide)).trans ((touches_setStore _ _).mono (by decide))
  have touched : Touches [.store, .mail] s u := counted.trans (done.touches.mono (by decide))
  have mail : u.mail = (popStore l s).mail := done.touches.same .mail (by decide)
  have inUse : u.store.inUse = Tab.put s.store.inUse l (some i) := done.inUse
  rw [e]
  refine h.change (.answered touched mail inUse _) ?_ fun k other c m f _ used holds => ?_
  · have before := parameterLaw_iff.mp h l
    unfold State.inTouch at before
    rw [waiting_of_storeMsg head] at before
    by_cases current : (s.lane l).channel = some i ∧ (s.lane l).lookupPending = true ∧ (s.mail.toStore.get l).tail = []
    · obtain ⟨carries, pending, last⟩ := current
      rw [last] at before ⊢
      exact before.answersLookup carries pending done.holds
    · refine before.answersPast rfl fun c hc => ?_
      have pending : (s.lane l).lookupPending = true := by
        by_contra off
        obtain ⟨-, -, messages, -⟩ := before.restarts c hc (Bool.eq_false_iff.mpr off)
        rcases messages _ (List.mem_cons_self ..) with e | ⟨m, e⟩ <;> cases e
      obtain ⟨-, -, -, ⟨since, -⟩ | ⟨gone, -⟩⟩ := before.lookup c hc pending
      · refine ⟨pending, (sinceRelease_of_cons since).resolve_right fun ⟨same, last⟩ => current ?_⟩
        rw [StoreMsg.lookup.inj same]
        exact ⟨hc, pending, last⟩
      · cases gone
  · refine memoHolds_congr (s := s) (t := u) ?_ holds
    have still : (setInUse l (some i) (popStore l s)).store.inUse.get k = some c :=
      (Tab.get_put_other _ l k _ other).trans used
    have held := memoHeld_of_inUse (s := setInUse l (some i) (popStore l s)) (m := m) holds.1 still
    rw [done.held m held]
    exact ⟨rfl, rfl⟩

/-- The store's answer to a restart allocation (R101): another memo stays as it was where it is held, and so does the
channel's where it is another lane's by now; otherwise the channel's memo takes the lane's fields. -/
structure RestartTaken (s u : State) (l : LaneId) (i : PlanIndex) (f : Params) (answer : Option MemoId) : Prop where
  touches : Touches [.store] s u
  inUse : u.store.inUse = s.store.inUse
  other : ∀ n, s.memoHeld n = true → answer ≠ some n → u.memo n = s.memo n
  held : ∀ n, s.memoHeld n = true → ((s.memo n).tag = some i → s.keptByAnother l i = true) → u.memo n = s.memo n
  holds : s.keptByAnother l i = false → ∀ m, answer = some m → u.memoHolds m i (withRate (s.bandwidth i) f)

theorem restartMemo_taken (l : LaneId) (i : PlanIndex) (f : Params) (s : State) : ∃ answer u,
    restartMemo l i f s = answerLane l (.restart i answer) u ∧ RestartTaken s u l i f answer := by
  unfold restartMemo
  split
  · exact ⟨_, _, rfl, Touches.refl _ _, rfl, fun _ _ _ => rfl, fun _ _ _ => rfl, fun _ _ e => nomatch e⟩
  · next m made u found =>
    have found := found_of_findOrAllocate found
    have touched := found.touches
    split
    · next kept =>
      obtain ⟨-, kept⟩ := Bool.and_eq_true_iff.mp kept
      exact ⟨_, _, rfl, touched, found.inUse, fun n held _ => found.held held, fun n held _ => found.held held,
        fun unkept => nomatch kept.symm.trans unkept⟩
    · next writes =>
      have wrote := touches_writeMemo u (fun _ => f) m
      have elsewhere : ∀ n, s.memoHeld n = true → m ≠ n → (writeMemo (fun _ => f) m u).memo n = s.memo n :=
        fun n held e => by rw [writeMemo_memo, if_neg e, found.held held]
      refine ⟨_, _, rfl, touched.trans wrote, found.inUse, fun n held ne => elsewhere n held fun e => ne (congrArg some e),
        fun n held unwritten => elsewhere n held fun e => ?_, fun _ k hk => ?_⟩
      · subst e
        cases found with
        | found tag => exact writes (by rw [unwritten tag]; rfl)
        | allocated none victim =>
          have unheld := (victim_spec victim).2
          rw [held] at unheld
          cases unheld
      · obtain rfl : m = k := Option.some.inj hk
        have bandwidth : u.bandwidth i = s.bandwidth i :=
          bandwidth_congr (congrArg PlanBlock.entries (touched.same .plan (by decide))) i
        unfold State.memoHolds
        rw [writeMemo_memo, if_pos rfl, found.tag, Option.bind_some, bandwidth]
        exact ⟨rfl, rfl⟩

theorem parameterLaw_restartMemo (law : SharingLaw s) (h : ParameterLaw s) {f : Params}
    (head : s.storeMsg l = some (.restart i f)) : ParameterLaw (restartMemo l i f (popStore l s)) := by
  obtain ⟨answer, u, e, done⟩ := restartMemo_taken l i f (popStore l s)
  have touched : Touches [.store, .mail] s u :=
    ((touches_setMail s _).mono (by decide)).trans (done.touches.mono (by decide))
  have mail : u.mail = (popStore l s).mail := done.touches.same .mail (by decide)
  have bandwidth : ∀ c, u.bandwidth c = s.bandwidth c :=
    bandwidth_congr (congrArg PlanBlock.entries (touched.same .plan (by decide)))
  have kept : (popStore l s).keptByAnother l i = s.keptByAnother l i := rfl
  rw [e]
  refine h.change (.answered touched mail (done.inUse.trans (Tab.put_get s.store.inUse l).symm) _) ?_ fun k other c m g hk used holds => ?_
  · have before := parameterLaw_iff.mp h l
    unfold State.inTouch at before
    rw [waiting_of_storeMsg head] at before
    by_cases current : (s.lane l).channel.isSome ∧ (s.lane l).lookupPending = false
    · obtain ⟨carries, idle⟩ := current
      obtain ⟨c, hc⟩ := Option.isSome_iff_exists.mp carries
      obtain ⟨used, -, messages, -⟩ := before.restarts c hc idle
      obtain ⟨rfl, rfl⟩ : i = c ∧ f = (s.lane l).params := by
        rcases messages _ (List.mem_cons_self ..) with e | ⟨m, e⟩
        · exact StoreMsg.restart.inj e
        · cases e
      have fresh := done.holds (kept.trans (keptByAnother_of_holder law hc))
      have self : withRate ((popStore l s).bandwidth i) (s.lane l).params = (s.lane l).params :=
        withRate_self (before.rate i hc)
      rw [self] at fresh
      refine before.answersRestart hc idle (bandwidth i) (fun m holds => ?_) fresh
      by_cases same : answer = some m
      · exact fresh m same
      · refine memoHolds_congr (s := s) (t := u) ?_ holds
        rw [done.other m (memoHeld_of_inUse (s := popStore l s) holds.1 used) same]
        exact ⟨rfl, rfl⟩
    · refine before.answersPast rfl fun c hc => ?_
      have pending : (s.lane l).lookupPending = true := by
        by_contra off
        exact current ⟨by rw [hc]; rfl, Bool.eq_false_iff.mpr off⟩
      obtain ⟨-, -, -, ⟨since, -⟩ | ⟨gone, -⟩⟩ := before.lookup c hc pending
      · exact ⟨pending, (sinceRelease_of_cons since).resolve_right fun ⟨same, _⟩ => nomatch same⟩
      · cases gone
  · refine memoHolds_congr (s := s) (t := u) ?_ holds
    rw [done.held m (memoHeld_of_inUse (s := popStore l s) holds.1 used) fun tag => ?_]
    · exact ⟨rfl, rfl⟩
    · obtain rfl : c = i := Option.some.inj (holds.1.symm.trans tag)
      rw [kept]
      exact (keptByAnother_iff s l c).mpr ⟨k, Ne.symm other, hk, used⟩

/-! ## The store's answers at a lane (R64, R83) -/

theorem parameterLaw_answers (law : SharingLaw s) (memo : MemoLaw s) (plan : PlanLaw s) (h : ParameterLaw s)
    (a : Answers s l t) : ParameterLaw t := by
  have change : ∀ {rest : List LaneMsg} {y : Lane}, TakesAnswer s t l rest →
      (∀ k, t.lane k = if l = k then y else s.lane k) →
      LaneChange s t l y (s.mail.toStore.get l) rest (s.store.inUse.get l) ∧ t.store = s.store :=
    fun taken lanes => by
      have store : t.store = s.store := taken.touches.same .store (by decide)
      have plan : t.plan = s.plan := taken.touches.same .plan (by decide)
      exact ⟨⟨lanes, by rw [taken.toStore, Tab.put_get], taken.toLane, by rw [store, Tab.put_get], by rw [plan]⟩, store⟩
  have own := parameterLaw_iff.mp h l
  unfold State.inTouch at own
  cases a with
  | idle same => exact same ▸ h
  | discards m rest waiting past taken lanes =>
    rw [waiting] at own
    obtain ⟨changed, store⟩ := change taken lanes
    refine h.speak changed (own.discards (law.channelWhenBusy l) fun concerns => ?_) store
    rw [answerConcerns_iff.mpr concerns] at past
    cases past
  | takes m rest waiting concerns taken lanes =>
    rw [waiting] at own
    obtain ⟨changed, store⟩ := change taken lanes
    obtain ⟨busy, carries, zero⟩ := answerConcerns_iff.mp concerns
    refine h.speak changed (InTouch.refits ?_ (refits_leftWait s _)) store
    cases m with
    | lookup i answer =>
      refine own.takesLookup busy carries zero fun m f holds => ?_
      rw [← holds.2]
      exact memo.rate m i holds.1 (plan.busy l i busy carries)
    | restart i answer => exact own.takesRestart busy carries zero

/-! ## The resets -/

theorem parameterLaw_reset (r : AfterEitherReset t) : ParameterLaw t := by
  refine parameterLaw_iff.mpr fun l => ?_
  unfold State.inTouch
  obtain ⟨toStore, toLane, -⟩ := r.mail.1 l
  rw [r.lanes, toStore, toLane, r.inUse]
  refine ⟨nofun, nofun, rfl, fun _ => ⟨rfl, rfl, rfl⟩, ?_, nofun, nofun⟩
  rintro (e | e) <;> cases e

/-! ## Every command, and every step -/

theorem exec_parameterLaw (law : SharingLaw s) (memo : MemoLaw s) (plan : PlanLaw s) (h : ParameterLaw s) (c : Instr) :
    Yields ParameterLaw (exec c s) := by
  by_cases store : isOfStore c = false
  · refine (exec_moves law store).imp fun m => ?_
    exact (m.keeps (P := fun s => SharingLaw s ∧ ParameterLaw s)
      (fun both one => ⟨sharingLaw_move both.1 one, parameterLaw_move both.1 both.2 one⟩) ⟨law, h⟩).2
  cases c with
  | coldReset => exact parameterLaw_reset (afterEitherReset_afterCold s)
  | warmReset =>
    rw [exec_warmReset]
    exact parameterLaw_reset (afterEitherReset_warmBase_setLog s _)
  | planWrite p =>
    simp only [exec, execPlanWrite]
    split
    · exact h
    · split
      exacts [h, (parameterLaw_planWrite law h _).steady steady_settle]
  | planDiscard =>
    simp only [exec, execPlanDiscard]
    split
    · exact h
    · next asked => exact (parameterLaw_planDiscard law plan h asked).steady steady_settle
  | memoPin p =>
    simp only [exec, execMemoPin]
    split
    exacts [h, (parameterLaw_memoPin h _).steady steady_settle]
  | memoFlush p =>
    simp only [exec, execMemoFlush]
    split
    exacts [h, (parameterLaw_flushMemos h fun _ held => held).steady ((steady_clearPins.respond p _ _).settle)]
  | memoFlushUnpinned p =>
    simp only [exec, execMemoFlushUnpinned]
    split
    · exact h
    · exact (parameterLaw_flushMemos h fun n held => Bool.or_eq_true_iff.mpr (.inr held)).steady
        ((steady_respond p _ _).settle)
  | memoSeed p =>
    simp only [exec, execMemoSeed]
    split
    exacts [h, (parameterLaw_memoSeed h _).steady steady_settle]
  | lookup l =>
    simp only [exec, execLookup]
    split
    · next head => exact parameterLaw_lookup h head
    · exact h
  | lockNotice l =>
    simp only [exec, execLockNotice]
    split
    · next head =>
      exact parameterLaw_pops h head rfl (.inl rfl) (Tab.put_get _ l).symm rfl
        (((touches_setMail s _).mono (by decide)).trans ((touches_setStore _ _).mono (by decide))) rfl
    · exact h
  | releaseNotice l =>
    simp only [exec, execReleaseNotice]
    split
    · next head =>
      exact parameterLaw_pops h head rfl (.inr rfl) rfl rfl
        (((touches_setMail s _).mono (by decide)).trans ((touches_setStore _ _).mono (by decide))) rfl
    · exact h
  | restartAllocation l =>
    simp only [exec, execRestartAllocation]
    split
    · next head => exact parameterLaw_restartMemo law h head
    · exact h
  | lookupAnswer l => exact (exec_answers (.inl rfl)).imp (parameterLaw_answers law memo plan h)
  | restartAllocationAnswer l => exact (exec_answers (.inr rfl)).imp (parameterLaw_answers law memo plan h)
  | _ => exact absurd rfl store

theorem step_keeps_parameterLaw (law : SharingLaw s) (memo : MemoLaw s) (plan : PlanLaw s) (h : ParameterLaw s)
    (e : step s = .next t) : ParameterLaw t := by
  cases hp : s.pending with
  | nil =>
    rw [step_eq_tick hp] at e
    exact Host.Outcome.next.inj e ▸ h.steady steady_tick
  | cons c rest =>
    rw [step_eq_exec hp] at e
    have queued : Steady s { s with pending := rest } := steady_pending rest
    exact (exec_parameterLaw (law.steady queued) ⟨memo.order, memo.tags, memo.pinned, memo.rate⟩
      ⟨plan.busy, plan.asked, plan.tagged⟩ (h.steady queued) c).next e

/-- Settles O56: a lane's record by itself, and each lane in touch with the store by itself, through moves, the store's
commands and answers, and resets. -/
theorem stepKeepsTheLaneRecords : Obligations.StepKeepsTheLaneRecords :=
  ⟨fun _ _ => step_keeps_laneLaw, fun _ _ => step_keeps_parameterLaw⟩

end Sys2Proof.Machine
end

section
/-! The state after one lane has acted: its record, the memos and the mail set, the rest as it was (`State.acted`). One
equation for each operation of a lane; the events of the lanes (chapter 4) are read off them. -/

namespace Sys2Proof.Machine

variable {s t : State} {x y : Lane} {l : LaneId} {memos : Vector Memo 16} {m : Mail}

/-- The state after a lane has acted. -/
def State.acted (s : State) (l : LaneId) (y : Lane) (memos : Vector Memo 16) (m : Mail) : State :=
  { s with lanes := Tab.put s.lanes l y, store := { s.store with memos }, mail := m }

/-- Before it has acted. -/
theorem State.acted_self (s : State) (l : LaneId) : s.acted l (s.lane l) s.store.memos s.mail = s := by
  unfold State.acted State.lane
  rw [Tab.put_get]

theorem acted_lane : (s.acted l y memos m).lane l = y := Tab.get_put_same ..

theorem acted_setLane (z : Lane) : (s.acted l y memos m).setLane l z = s.acted l z memos m := by
  unfold State.acted State.setLane
  rw [Tab.put_put]

theorem acted_modLane (f : Lane → Lane) : (s.acted l y memos m).modLane l f = s.acted l (f y) memos m := by
  unfold State.modLane
  rw [acted_setLane, acted_lane]

/-! ## Reports and messages -/

theorem acted_tellAdmission (a : AdmMsg) :
    tellAdmission a (s.acted l y memos m) = s.acted l y memos { m with toAdm := m.toAdm ++ [a] } := rfl

theorem acted_reportState :
    reportState l (s.acted l y memos m) =
      s.acted l y memos { m with toAdm := m.toAdm ++ [AdmMsg.state l y.state.kind] } := by
  unfold reportState
  rw [acted_lane, acted_tellAdmission]

theorem acted_reportRate :
    reportRate l (s.acted l y memos m) =
      s.acted l y memos { m with toAdm := m.toAdm ++ [AdmMsg.rate l y.params.streamRate] } := by
  unfold reportRate
  rw [acted_lane, acted_tellAdmission]

theorem acted_reportLane (kind : ErrorKind) (h : y.channel = (s.lane l).channel) :
    reportLane kind l (s.acted l y memos m) =
      s.acted l y memos { m with toLog := m.toLog ++ [laneFault s kind l] } := by
  unfold reportLane laneFault
  rw [acted_lane, h]
  rfl

theorem acted_tellStore (q : StoreMsg) :
    tellStore l q (s.acted l y memos m) =
      s.acted l y memos { m with toStore := Tab.put m.toStore l (m.toStore.get l ++ [q]) } := rfl

/-! ## Stages (R66 to R71) -/

theorem acted_enterStage (st : Stage) (ms : Nat) :
    enterStage st ms l (s.acted l y memos m) =
      s.acted l { y with state := .acquire st, stageTimer := some (later s.now ms) } memos m :=
  acted_modLane _

theorem tuning_eq_sensed (s : State) (x : Lane) : s.tuning x = (sensed s x).tuned := by
  unfold State.tuning sensed
  cases x.channel with
  | none => rfl
  | some c =>
    simp only [Option.bind_some]
    cases s.entry c <;> cases x.params.offset <;> simp

theorem acted_enterSense : enterSense l (s.acted l y memos m) = s.acted l (sensed s y) memos m := by
  unfold enterSense
  rw [acted_modLane]
  refine congrArg (fun z => s.acted l z memos m) ?_
  exact congrArg (fun f => { y with state := .acquire .sense, stageTimer := some (later s.now senseMs), tuned := f })
    (tuning_eq_sensed s y)

theorem acted_leaveWait : leaveWait l (s.acted l y memos m) = s.acted l (sensing s y) memos m := by
  rw [leaveWait_eq, acted_lane, acted_setLane, leftWait_eq_sensing]
  rfl

/-! ## Writes (R62, R93, R98) -/

/-- A write of fields to the memo that a lane has, if it has one. -/
def memosAfter (s : State) (memos : Vector Memo 16) (memo : Option MemoId) (g : Params → Params) : Vector Memo 16 :=
  match memo with
  | none => memos
  | some m => Tab.put memos m { memos.get m with
      fields := withRate ((memos.get m).tag.bind s.bandwidth) (g (memos.get m).fields) }

theorem memosAfter_store (s : State) (l : LaneId) (g : Params → Params) :
    memosAfter s s.store.memos (s.lane l).memo g = memosWritten s l g := by
  unfold memosAfter memosWritten
  cases (s.lane l).memo <;> rfl

/-- A lane's record after a write of fields, its rate recomputed (R62). -/
def Lane.wrote (y : Lane) (s : State) (g : Params → Params) : Lane :=
  { y with params := withRate (y.channel.bind s.bandwidth) (g y.params) }

theorem acted_writeFields (g : Params → Params) :
    writeFields g l (s.acted l y memos m) = s.acted l (y.wrote s g) (memosAfter s memos y.memo g) m := by
  have own : (s.acted l y memos m).lane l = y := acted_lane
  have set : (s.acted l y memos m).modLane l (fun x => { x with
      params := withRate (y.channel.bind (s.acted l y memos m).bandwidth) (g x.params) }) =
      s.acted l (y.wrote s g) memos m := acted_modLane _
  cases memo : y.memo with
  | none =>
    unfold writeFields
    simp only [own, memo]
    exact set
  | some k =>
    unfold writeFields
    simp only [own, memo]
    exact congrArg (writeMemo g k) set

/-- A write that a rate recomputed before it does not change: the written fields give the rate. -/
def RateBlind (g : Params → Params) : Prop := ∀ b f, withRate b (g (withRate b f)) = withRate b (g f)

/-- Two writes, the second one blind to the rate, are one. -/
theorem memosAfter_twice {f g : Params → Params} (blind : RateBlind g) (memo : Option MemoId) :
    memosAfter s (memosAfter s memos memo f) memo g = memosAfter s memos memo (g ∘ f) := by
  unfold memosAfter
  cases memo with
  | none => rfl
  | some k =>
    simp only [Tab.get_put_same, Tab.put_put]
    rw [blind]
    rfl

/-- CELL_CHANGED where a present cell identifier differs from the new one (R72). -/
theorem acted_writeCell (cell : BitVec 16) (channel : y.channel = (s.lane l).channel) :
    writeCell cell l (s.acted l y memos m) =
      s.acted l (y.wrote s fun f => { f with cell := some cell }) (memosAfter s memos y.memo fun f => { f with cell := some cell })
        { m with toLog := m.toLog ++
          if y.params.cell = none ∨ y.params.cell = some cell then [] else [laneFault s .cellChanged l] } := by
  have told := fun z memos => acted_reportLane (s := s) (l := l) (y := z) (memos := memos) (m := m) .cellChanged
  unfold writeCell
  simp only [acted_lane, acted_writeFields]
  cases hc : y.params.cell with
  | none => simp
  | some old =>
    by_cases e : old = cell
    · simp [e]
    · simp only [e, if_false, Option.some.injEq, reduceCtorEq, or_false]
      exact told _ _ channel

/-- A clear of fields that leaves no rate reports it absent, where there was one (R73). -/
theorem acted_clearFields {g : Params → Params} (absent : ∀ b f, rateFrom b (g f) = none) :
    clearFields g l (s.acted l y memos m) =
      s.acted l (y.wrote s g) (memosAfter s memos y.memo g)
        { m with toAdm := m.toAdm ++ if y.params.streamRate = none then [] else [AdmMsg.rate l none] } := by
  unfold clearFields
  simp only [acted_lane, acted_writeFields, acted_reportRate]
  split
  · rw [List.append_nil]
  · refine congrArg (fun r => s.acted l _ _ { m with toAdm := m.toAdm ++ [AdmMsg.rate l r] }) ?_
    exact absent _ _

/-! ## Attempts, HOLDOFF and LOCKED (R71, R75, R82) -/

theorem acted_enterHoldoff (reason : HoldoffReason) :
    enterHoldoff reason l (s.acted l y memos m) =
      s.acted l (heldOff s.now reason y) memos { m with toAdm := m.toAdm ++ [AdmMsg.state l .holdoff] } := by
  unfold enterHoldoff
  rw [acted_modLane, acted_reportState]
  rfl

theorem acted_countAttempt (channel : y.channel = (s.lane l).channel) :
    countAttempt l (s.acted l y memos m) =
      s.acted l (attempted s y) memos { m with
        toAdm := m.toAdm ++ if y.attempts + 1 < 3 then [] else [AdmMsg.state l .holdoff]
        toLog := m.toLog ++ if y.attempts + 1 < 3 then [] else [laneFault s .acqFail l] } := by
  unfold countAttempt attempted
  simp only [acted_modLane, acted_lane]
  split
  · rw [acted_enterSense, List.append_nil, List.append_nil]
  · rw [acted_enterHoldoff]
    exact acted_reportLane .acqFail channel

theorem acted_enterLocked :
    enterLocked l (s.acted l y memos m) =
      s.acted l { y.stopTimers with state := .locked, recheckTimer := some (later s.now y.recheckPeriod) } memos
        { m with toAdm := m.toAdm ++ [AdmMsg.state l .locked] } := by
  unfold enterLocked
  rw [acted_modLane, acted_reportState]
  rfl

/-! ## Restarts (R83, R101) -/

theorem acted_askRestart :
    askRestart l (s.acted l y memos m) =
      s.acted l { y with restartsPending := y.restartsPending + (restartAsked y).length } memos
        { m with toStore := Tab.put m.toStore l (m.toStore.get l ++ restartAsked y) } := by
  have idle : restartAsked y = [] → s.acted l y memos m =
      s.acted l { y with restartsPending := y.restartsPending + (restartAsked y).length } memos
        { m with toStore := Tab.put m.toStore l (m.toStore.get l ++ restartAsked y) } := fun e => by
    rw [e, List.append_nil, Tab.put_get]
    rfl
  unfold askRestart
  simp only [acted_lane, acted_modLane, acted_tellStore]
  split
  · next c memo channel =>
    split
    · next answered =>
      have asks : restartAsked y = [.restart c y.params] := by
        unfold restartAsked
        rw [memo, channel]
        exact if_pos answered
      rw [asks]
      rfl
    · next waits =>
      refine idle ?_
      unfold restartAsked
      rw [memo, channel]
      exact if_neg waits
  · next other =>
    refine idle ?_
    unfold restartAsked
    split
    · next c memo channel => exact absurd channel (other c memo)
    · rfl

theorem acted_restartLane (out : y.state.kind ≠ .acquire) :
    restartLane l (s.acted l y memos m) =
      s.acted l (sensing s (restarted y)) memos { m with
        toAdm := m.toAdm ++ [AdmMsg.state l .acquire]
        toStore := Tab.put m.toStore l (m.toStore.get l ++ restartAsked y) } := by
  unfold restartLane
  simp only [acted_lane, acted_modLane, acted_askRestart, if_neg out, acted_reportState, acted_leaveWait]
  rfl

end Sys2Proof.Machine
end

section
/-! The events of acquisition and the store's answers at the lane (R64 to R74, R82, R83). -/

namespace Sys2Proof.Machine

variable {s t : State} {x y : Lane} {l : LaneId} {memos : Vector Memo 16} {m : Mail} {st : Stage}

/-- A lane's operation, from the state in which the lane has not yet acted. -/
theorem eq_of_acted {f : State → State} (h : f (s.acted l (s.lane l) s.store.memos s.mail) = t) : f s = t := by
  rwa [State.acted_self] at h

theorem inStage_of_state (h : (s.lane l).state = .acquire st) : s.inStage l st = true := decide_eq_true h

theorem not_inStage_of_state (h : (s.lane l).state ≠ .acquire st) : ¬ s.inStage l st = true := fun e =>
  h (of_decide_eq_true e)

theorem stageExpired_of_due {t0 : Time} (h : (s.lane l).state = .acquire st)
    (due : (s.lane l).stageTimer = some t0 ∧ (s.now - t0).toNat < 2147483648) : s.stageExpired l st = true :=
  Bool.and_eq_true_iff.mpr ⟨inStage_of_state h, timerDue_of_reached due.1 due.2⟩

/-! ## The store's answers (R64, R83) -/

theorem laneMsg_of_waiting {a : LaneMsg} {rest : List LaneMsg} (h : s.mail.toLane.get l = a :: rest) :
    s.laneMsg l = some a := by
  unfold State.laneMsg
  rw [h, List.head?_cons]

theorem popAnswer_of_waiting {a : LaneMsg} {rest : List LaneMsg} (h : s.mail.toLane.get l = a :: rest) :
    popAnswer l s = s.setMail { s.mail with toLane := Tab.put s.mail.toLane l rest } := by
  unfold popAnswer
  rw [h, List.tail_cons]

/-- An answer concerns the lane unless it is FREE, carries another channel, or has past answers to come (R64). -/
theorem answerConcerns_iff_not_old {c : PlanIndex} : s.answerConcerns l c = true ↔
    ¬ ((s.lane l).state = .free ∨ (s.lane l).channel ≠ some c ∨ 0 < (s.lane l).staleAnswers) := by
  rw [answerConcerns_iff]
  simp only [not_or, ne_eq, Classical.not_not, Nat.pos_iff_ne_zero]

theorem exec_lookupAnswer {c : PlanIndex} {answer : Option (MemoId × Params)} {rest : List LaneMsg}
    (h : s.mail.toLane.get l = .lookup c answer :: rest) :
    exec (.lookupAnswer l) s =
      if s.answerConcerns l c = true then .next (takeLookupAnswer l answer (popAnswer l s))
      else .next (discardAnswer l (popAnswer l s)) := by
  simp only [exec, execLookupAnswer, laneMsg_of_waiting h]

theorem exec_restartAllocationAnswer {c : PlanIndex} {answer : Option MemoId} {rest : List LaneMsg}
    (h : s.mail.toLane.get l = .restart c answer :: rest) :
    exec (.restartAllocationAnswer l) s =
      if s.answerConcerns l c = true then .next (takeRestartAnswer l answer (popAnswer l s))
      else .next (discardAnswer l (popAnswer l s)) := by
  simp only [exec, execRestartAllocationAnswer, laneMsg_of_waiting h]

/-- Settles O44: an answer is of an earlier assignment and discarded, or it is taken and the lane leaves WAIT where it
may. -/
theorem storeAnswersReachTheLane : Obligations.StoreAnswersReachTheLane := by
  intro l x rest s taken old discarded
  refine ⟨fun answer waiting => ⟨fun past => ?_, fun present => ?_⟩,
    fun answer waiting => ⟨fun past => ?_, fun present => ?_⟩⟩
  · rw [exec_lookupAnswer waiting, if_neg fun c => answerConcerns_iff_not_old.mp c past, popAnswer_of_waiting waiting]
    rfl
  · rw [exec_lookupAnswer waiting, if_pos (answerConcerns_iff_not_old.mpr present), takeLookupAnswer_eq,
      popAnswer_of_waiting waiting, leftWait_eq_sensing]
    cases answer <;> rfl
  · rw [exec_restartAllocationAnswer waiting, if_neg fun c => answerConcerns_iff_not_old.mp c past,
      popAnswer_of_waiting waiting]
    rfl
  · rw [exec_restartAllocationAnswer waiting, if_pos (answerConcerns_iff_not_old.mpr present), takeRestartAnswer_eq,
      popAnswer_of_waiting waiting, leftWait_eq_sensing]
    rfl

/-! ## The success events (R67 to R73) -/

theorem wrote_channel (g : Params → Params) (channel : y.channel = (s.lane l).channel) :
    (y.wrote t g).channel = (s.lane l).channel := channel

theorem wrote_twice {f g : Params → Params} (blind : RateBlind g) : (y.wrote s f).wrote s g = y.wrote s (g ∘ f) := by
  unfold Lane.wrote
  simp only
  rw [blind]
  rfl

theorem later_recheckPeriod (now : Time) (x : Lane) :
    later now x.recheckPeriod = now + if x.unsettled.isSome then 500#32 else 2000#32 := by
  unfold Lane.recheckPeriod
  split <;> rfl

theorem acted_carrierFound (offset : Int) (mode : CarrierMode) (guard : Guard) {g : Params → Params}
    (hg : g = fun f => { f with offset := some offset, mode := some mode, guard := some guard }) :
    carrierFound l offset mode guard (s.acted l y memos m) =
      s.acted l { y.wrote s g with state := .acquire .frame, stageTimer := some (later s.now frameMs) }
        (memosAfter s memos y.memo g)
        { m with toAdm := m.toAdm ++
          if (y.wrote s g).params.streamRate = none then [] else [AdmMsg.rate l (y.wrote s g).params.streamRate] } := by
  subst hg
  unfold carrierFound
  simp only [acted_writeFields, acted_enterStage, acted_lane, acted_reportRate]
  split
  · rw [List.append_nil]
  · rfl

/-- Constellation and code rate, then the cell identifier: one write (R69). -/
theorem acted_frameDecoded (constellation : Constellation) (codeRate : CodeRate) (cell : BitVec 16)
    (channel : y.channel = (s.lane l).channel) {g : Params → Params}
    (hg : g = fun f =>
      { f with constellation := some constellation, codeRate := some codeRate, cell := some cell }) :
    frameDecoded l constellation codeRate cell (s.acted l y memos m) =
      s.acted l { y.wrote s g with state := .acquire .stream, stageTimer := some (later s.now streamMs) }
        (memosAfter s memos y.memo g)
        { m with
          toAdm := m.toAdm ++ [AdmMsg.rate l (y.wrote s g).params.streamRate]
          toLog := m.toLog ++
            if y.params.cell = none ∨ y.params.cell = some cell then [] else [laneFault s .cellChanged l] } := by
  have blind : RateBlind fun f => { f with cell := some cell } := fun _ _ => rfl
  unfold frameDecoded
  simp only [acted_writeFields]
  rw [acted_writeCell cell (wrote_channel _ channel), acted_reportRate, acted_enterStage, wrote_twice blind]
  rw [show (y.wrote s fun f => { f with constellation := some constellation, codeRate := some codeRate }).memo = y.memo
    from rfl, memosAfter_twice blind, hg]
  rfl

theorem acted_streamSync :
    streamSync l (s.acted l y memos m) =
      s.acted l { y.stopTimers with state := .locked, recheckTimer := some (later s.now y.recheckPeriod) } memos
        { m with
          toAdm := m.toAdm ++ [AdmMsg.state l .locked]
          toStore := match y.memo with
            | none => m.toStore
            | some k => Tab.put m.toStore l (m.toStore.get l ++ [StoreMsg.lock k]) } := by
  unfold streamSync
  simp only [acted_lane, acted_enterLocked]
  cases y.memo <;> rfl

/-- Settles O45: each success event is one write, one stage and its reports; out of its stage it does nothing. -/
theorem stageSuccessesAdvanceTheLane : Obligations.StageSuccessesAdvanceTheLane := by
  intro l s x
  refine ⟨fun h => ?_, fun offset mode guard h => ?_, fun constellation codeRate cell h => ?_, fun cell h => ?_,
    fun h => ?_, fun h => ?_, fun offset mode guard h => ?_, fun constellation codeRate cell h => ?_,
    fun cell h => ⟨?_, ?_⟩, fun h => ?_⟩
  · rw [exec, execSignalPresent, if_pos (inStage_of_state h)]
    change (if x.params.holdsSignalling = true then _ else _) = _
    unfold Params.holdsSignalling
    split
    · exact congrArg Host.Outcome.next (eq_of_acted (acted_enterStage _ _))
    · exact congrArg Host.Outcome.next (eq_of_acted (acted_enterStage _ _))
  · intro g
    rw [exec, execCarrierFound, if_pos (inStage_of_state h)]
    refine congrArg Host.Outcome.next (eq_of_acted ((acted_carrierFound offset mode guard rfl).trans ?_))
    rw [memosAfter_store]
    rfl
  · intro g
    rw [exec, execFrameDecoded, if_pos (inStage_of_state h)]
    refine congrArg Host.Outcome.next (eq_of_acted ((acted_frameDecoded constellation codeRate cell rfl rfl).trans ?_))
    rw [memosAfter_store]
    rfl
  · intro g
    rw [exec, execSignallingMatch, if_pos (inStage_of_state h)]
    refine congrArg Host.Outcome.next (eq_of_acted (l := l) (f := fun u => enterStage .stream streamMs l (writeCell cell l u)) ?_)
    simp only
    rw [acted_writeCell cell rfl, acted_enterStage, memosAfter_store]
    rfl
  · rw [exec, execStreamSync, if_pos (inStage_of_state h)]
    refine congrArg Host.Outcome.next (eq_of_acted (acted_streamSync.trans ?_))
    rw [later_recheckPeriod]
    rfl
  · rw [exec, execSignalPresent, if_neg (not_inStage_of_state h)]
  · rw [exec, execCarrierFound, if_neg (not_inStage_of_state h)]
  · rw [exec, execFrameDecoded, if_neg (not_inStage_of_state h)]
  · rw [exec, execSignallingMatch, if_neg (not_inStage_of_state h)]
  · rw [exec, execSignallingMismatch, if_neg (not_inStage_of_state h)]
  · rw [exec, execStreamSync, if_neg (not_inStage_of_state h)]

/-! ## Timeouts and the mismatch (R67 to R71, R82) -/

theorem acted_mismatch (channel : y.channel = (s.lane l).channel) {g : Params → Params}
    (hg : g = fun f => { f with mode := none, guard := none, constellation := none, codeRate := none, cell := none }) :
    mismatch l (s.acted l y memos m) =
      s.acted l { y.wrote s g with state := .acquire .carrier, stageTimer := some (later s.now carrierMs) }
        (memosAfter s memos y.memo g)
        { m with
          toAdm := m.toAdm ++ if y.params.streamRate = none then [] else [AdmMsg.rate l none]
          toLog := m.toLog ++ [laneFault s .memoMismatch l] } := by
  subst hg
  unfold mismatch
  simp only
  rw [acted_clearFields fun b f => by cases b <;> rfl, acted_reportLane .memoMismatch (wrote_channel _ channel), acted_enterStage]

/-- A timeout that clears fields and counts an attempt (R68, R69). -/
theorem acted_clearedAttempt (channel : y.channel = (s.lane l).channel) {g : Params → Params}
    (absent : ∀ b f, rateFrom b (g f) = none) :
    countAttempt l (clearFields g l (s.acted l y memos m)) =
      s.acted l (attempted s (y.wrote s g)) (memosAfter s memos y.memo g) { m with
        toAdm := m.toAdm ++ ((if y.params.streamRate = none then [] else [AdmMsg.rate l none]) ++
          if y.attempts + 1 < 3 then [] else [AdmMsg.state l .holdoff])
        toLog := m.toLog ++ if y.attempts + 1 < 3 then [] else [laneFault s .acqFail l] } := by
  rw [acted_clearFields absent, acted_countAttempt (wrote_channel _ channel), ← List.append_assoc]
  rfl

/-- Settles O46: each timeout clears what it clears in set and memo, and counts an attempt; a mismatch goes back to
CARRIER. -/
theorem stageTimeoutsCountAttempts : Obligations.StageTimeoutsCountAttempts := by
  intro l t0 s x due cleared after mismatched
  have after_eq : ∀ {g : Params → Params}, (∀ b f, rateFrom b (g f) = none) →
      countAttempt l (clearFields g l s) = after g cleared := fun {g} absent => by
    refine eq_of_acted (l := l) (f := fun u => countAttempt l (clearFields g l u)) ((acted_clearedAttempt rfl absent).trans ?_)
    rw [memosAfter_store]
    rfl
  have mismatched_eq : mismatch l s = mismatched := by
    refine eq_of_acted ((acted_mismatch rfl rfl).trans ?_)
    rw [memosAfter_store]
    rfl
  refine ⟨fun h d => ?_, fun h d => ?_, fun h d => ?_, fun h d => ?_, fun h => ?_, fun h d => ?_⟩
  · rw [exec, execSenseTimeout, if_pos (stageExpired_of_due h d)]
    exact congrArg Host.Outcome.next (eq_of_acted (acted_enterHoldoff .noSignal))
  · rw [exec, execCarrierTimeout, if_pos (stageExpired_of_due h d), after_eq fun b f => by cases b <;> rfl]
  · rw [exec, execFrameTimeout, if_pos (stageExpired_of_due h d), after_eq fun b f => ?_]
    cases b with
    | none => rfl
    | some b => cases f.guard <;> rfl
  · rw [exec, execStreamTimeout, if_pos (stageExpired_of_due h d)]
    exact congrArg Host.Outcome.next (eq_of_acted (acted_countAttempt rfl))
  · rw [exec, execSignallingMismatch, if_pos (inStage_of_state h), mismatched_eq]
  · rw [exec, execVerifyTimeout, if_pos (stageExpired_of_due h d), mismatched_eq]

end Sys2Proof.Machine
end

section
/-! The events of LOCKED and COAST, the restarts, the signalling recheck, packets and the UNSETTLED condition (R74 to R83). -/

namespace Sys2Proof.Machine

variable {s t : State} {x y : Lane} {l : LaneId} {memos : Vector Memo 16} {m : Mail}

/-! ## The recheck (R78) -/

/-- A cell identifier that a recheck writes: one that differs from a present one (R78). -/
def NewCell (f : Params) (cell : BitVec 16) : Prop := f.cell ≠ none ∧ f.cell ≠ some cell

theorem acted_recheckCell_new {cell : BitVec 16} (channel : y.channel = (s.lane l).channel)
    (new : NewCell y.params cell) :
    recheckCell l cell (s.acted l y memos m) =
      s.acted l (y.wrote s fun f => { f with cell := some cell })
        (memosAfter s memos y.memo fun f => { f with cell := some cell })
        { m with toLog := m.toLog ++ [laneFault s .cellChanged l] } := by
  obtain ⟨present, differs⟩ := new
  rw [recheckCell_eq, acted_lane, if_pos ⟨present, differs⟩, acted_writeCell cell channel,
    if_neg (fun same => same.elim present differs)]

theorem acted_recheckCell_old {cell : BitVec 16} (old : ¬ NewCell y.params cell) :
    recheckCell l cell (s.acted l y memos m) = s.acted l y memos m := by
  rw [recheckCell_eq, acted_lane]
  exact if_neg old

theorem acted_changeSignalling (mode : CarrierMode) (guard : Guard) (constellation : Constellation) (codeRate : CodeRate)
    (channel : y.channel = (s.lane l).channel) {g : Params → Params}
    (hg : g = fun f => { f with
      mode := some mode, guard := some guard, constellation := some constellation, codeRate := some codeRate }) :
    changeSignalling l mode guard constellation codeRate (s.acted l y memos m) =
      s.acted l (y.wrote s g) (memosAfter s memos y.memo g) { m with
        toAdm := m.toAdm ++ [AdmMsg.rate l (y.wrote s g).params.streamRate]
        toLog := m.toLog ++ [laneFault s .signallingChange l] } := by
  subst hg
  unfold changeSignalling
  simp only [acted_writeFields]
  rw [acted_reportLane .signallingChange (wrote_channel _ channel), acted_reportRate]

theorem differs_iff {f : Params} {mode : CarrierMode} {guard : Guard} {constellation : Constellation}
    {codeRate : CodeRate} : f.differs mode guard constellation codeRate = true ↔
      f.mode ≠ some mode ∨ f.guard ≠ some guard ∨ f.constellation ≠ some constellation ∨ f.codeRate ≠ some codeRate := by
  simp only [Params.differs, Bool.or_eq_true, decide_eq_true_eq, or_assoc]

/-- The four fields, and then the cell identifier where it is new: one write (R78). -/
theorem acted_rechecked (mode : CarrierMode) (guard : Guard) (constellation : Constellation) (codeRate : CodeRate)
    (cell : BitVec 16) (channel : y.channel = (s.lane l).channel) {four g : Params → Params} {reports : List Occurrence}
    (fields : four = fun f => { f with
      mode := some mode, guard := some guard, constellation := some constellation, codeRate := some codeRate })
    (writes : NewCell y.params cell →
      (g = fun f => { four f with cell := some cell }) ∧ reports = [laneFault s .cellChanged l])
    (keeps : ¬ NewCell y.params cell → g = four ∧ reports = []) :
    recheckCell l cell (changeSignalling l mode guard constellation codeRate (s.acted l y memos m)) =
      s.acted l (y.wrote s g) (memosAfter s memos y.memo g) { m with
        toAdm := m.toAdm ++ [AdmMsg.rate l (y.wrote s g).params.streamRate]
        toLog := m.toLog ++ (laneFault s .signallingChange l :: reports) } := by
  have cells : (y.wrote s four).params.cell = y.params.cell := by subst fields; rfl
  have same : NewCell (y.wrote s four).params cell ↔ NewCell y.params cell := by
    unfold NewCell
    rw [cells]
  rw [acted_changeSignalling mode guard constellation codeRate channel fields]
  by_cases new : NewCell y.params cell
  · obtain ⟨rfl, rfl⟩ := writes new
    have blind : RateBlind fun f => { f with cell := some cell } := fun _ _ => rfl
    rw [acted_recheckCell_new (wrote_channel _ channel) (same.mpr new), wrote_twice blind, List.append_assoc]
    exact congrArg (fun v => s.acted l _ v _) (memosAfter_twice blind y.memo)
  · obtain ⟨rfl, rfl⟩ := keeps new
    exact acted_recheckCell_old fun again => new (same.mp again)

/-- A lane that rechecks is no longer to read (R78). -/
theorem exec_recheck {mode : CarrierMode} {guard : Guard} {constellation : Constellation} {codeRate : CodeRate}
    {cell : BitVec 16} (locked : (s.lane l).state = .locked) (pending : (s.lane l).readPending = true) :
    exec (.recheck l mode guard constellation codeRate cell) s = .next (recheckCell l cell
      ((if (s.lane l).params.differs mode guard constellation codeRate = true then
          changeSignalling l mode guard constellation codeRate else id)
        (s.acted l { s.lane l with readPending := false } s.store.memos s.mail))) := by
  rw [exec, execRecheck, if_pos ⟨locked, pending⟩]
  split <;> rfl

/-- A recheck that finds a signalling field changed (R78). -/
theorem exec_recheck_differs {mode : CarrierMode} {guard : Guard} {constellation : Constellation} {codeRate : CodeRate}
    {cell : BitVec 16} {four g : Params → Params} {reports : List Occurrence} (locked : (s.lane l).state = .locked)
    (pending : (s.lane l).readPending = true)
    (differ : (s.lane l).params.differs mode guard constellation codeRate = true)
    (fields : four = fun f => { f with
      mode := some mode, guard := some guard, constellation := some constellation, codeRate := some codeRate })
    (writes : NewCell (s.lane l).params cell →
      (g = fun f => { four f with cell := some cell }) ∧ reports = [laneFault s .cellChanged l])
    (keeps : ¬ NewCell (s.lane l).params cell → g = four ∧ reports = []) :
    exec (.recheck l mode guard constellation codeRate cell) s = .next ({ s with
      lanes := Tab.put s.lanes l { s.lane l with readPending := false, params := written s l g }
      store := { s.store with memos := memosWritten s l g }
      mail := { s.mail with
        toAdm := s.mail.toAdm ++ [AdmMsg.rate l (written s l g).streamRate]
        toLog := s.mail.toLog ++ (laneFault s .signallingChange l :: reports) } } : State) := by
  rw [exec_recheck locked pending, if_pos differ, acted_rechecked (y := { s.lane l with readPending := false })
    mode guard constellation codeRate cell rfl fields writes keeps, ← memosAfter_store]
  rfl

/-- A recheck that finds the cell identifier alone changed (R78). -/
theorem exec_recheck_cell {mode : CarrierMode} {guard : Guard} {constellation : Constellation} {codeRate : CodeRate}
    {cell : BitVec 16} (locked : (s.lane l).state = .locked) (pending : (s.lane l).readPending = true)
    (alike : ¬ (s.lane l).params.differs mode guard constellation codeRate = true)
    (new : NewCell (s.lane l).params cell) :
    exec (.recheck l mode guard constellation codeRate cell) s = .next ({ s with
      lanes := Tab.put s.lanes l { s.lane l with
        readPending := false, params := written s l fun f => { f with cell := some cell } }
      store := { s.store with memos := memosWritten s l fun f => { f with cell := some cell } }
      mail := { s.mail with toLog := s.mail.toLog ++ [laneFault s .cellChanged l] } } : State) := by
  rw [exec_recheck locked pending, if_neg alike, id,
    acted_recheckCell_new (y := { s.lane l with readPending := false }) rfl new, ← memosAfter_store]
  rfl

/-! ## Restarts and UNSETTLED (R77, R80 to R83) -/

/-- Out of LOCKED, UNSETTLED is the flag alone. -/
theorem unsettledAt_of_not_locked (h : y.state ≠ .locked) (now : Time) :
    y.unsettledAt now = { y with unsettled := some (later now unsettledMs) } := by
  unfold Lane.unsettledAt
  split
  · next locked _ => exact absurd locked h
  · rfl

theorem acted_setUnsettled : setUnsettled l (s.acted l y memos m) = s.acted l (y.unsettledAt s.now) memos m :=
  acted_modLane _

/-- Settles O47: each event's stage, timers and reports; a recheck's two writes are one. -/
theorem lockedLanesCoastRestartAndRecheck : Obligations.LockedLanesCoastRestartAndRecheck := by
  intro l t0 s x period
  refine ⟨fun h => ?_, fun h => ?_, fun h timer reached => ?_, fun h timer reached => ?_, fun h timer reached => ?_,
    fun mode guard constellation codeRate cell h pending => ?_, fun h => ⟨?_, fun mode guard constellation codeRate cell => ?_⟩,
    fun h => ?_⟩
  · rw [exec, execSyncLost, if_pos h]
    refine congrArg Host.Outcome.next (eq_of_acted (l := l) (f := fun u => reportState l (u.modLane l
      fun x => { x.stopTimers with state := .coast, coastTimer := some (later s.now coastMs) })) ?_)
    simp only
    rw [acted_modLane, acted_reportState]
    rfl
  · rw [exec, execSyncRegained, if_pos h]
    refine congrArg Host.Outcome.next (eq_of_acted (acted_enterLocked.trans ?_))
    rw [later_recheckPeriod]
    rfl
  · rw [exec, execCoastExpiry, if_pos ⟨h, timerDue_of_reached timer reached⟩]
    refine congrArg Host.Outcome.next (eq_of_acted (l := l)
      (f := fun u => restartLane l (setUnsettled l (reportLane .lockLost l u))) ?_)
    have unlocked : x.state ≠ .locked := by rw [h]; nofun
    have out : { x with unsettled := some (later s.now unsettledMs) }.state.kind ≠ .acquire := by
      change x.state.kind ≠ _
      rw [h]
      nofun
    simp only
    rw [acted_reportLane .lockLost rfl, acted_setUnsettled, unsettledAt_of_not_locked unlocked, acted_restartLane out]
    rfl
  · rw [exec, execRetryExpiry, if_pos ⟨h, timerDue_of_reached timer reached⟩]
    refine congrArg Host.Outcome.next (eq_of_acted (acted_restartLane ?_))
    rcases h with e | e <;> (rw [e]; nofun)
  · rw [exec, execRecheckTimerExpiry, if_pos ⟨h, timerDue_of_reached timer reached⟩]
    change Host.Outcome.next (s.setLane l { x with
      readPending := true, recheckTimer := some (later s.now x.recheckPeriod) }) = _
    rw [later_recheckPeriod]
    rfl
  · intro differs newCell g
    refine ⟨fun differ => ?_, fun alike old => ?_, fun alike new => ?_⟩
    · refine exec_recheck_differs h pending (differs_iff.mpr differ) rfl (fun new => ⟨?_, if_pos new⟩)
        fun old => ⟨?_, if_neg old⟩
      · exact funext fun f => congrArg (fun c => { f with
          mode := some mode, guard := some guard, constellation := some constellation, codeRate := some codeRate
          cell := c }) (if_pos new)
      · exact funext fun f => congrArg (fun c => { f with
          mode := some mode, guard := some guard, constellation := some constellation, codeRate := some codeRate
          cell := c }) (if_neg old)
    · rw [exec_recheck h pending, if_neg fun differ => alike (differs_iff.mp differ)]
      exact congrArg Host.Outcome.next (acted_recheckCell_old fun new => old.elim new.1 new.2)
    · exact exec_recheck_cell h pending (fun differ => alike (differs_iff.mp differ)) new
  · rw [exec, execSyncLost, if_neg h]
  · rw [exec, execRecheck, if_neg fun both => h both.1]
  · rw [exec, execSyncRegained, if_neg h]

/-! ## Packets and the error-rate window (R79 to R81) -/

theorem exec_lanePacket {outcome : PacketOutcome} {bytes : List Byte} (h : (s.lane l).state = .locked) :
    exec (.lanePacket l outcome bytes) s = .next ({ s with
      lanes := Tab.put s.lanes l (((s.lane l).count outcome).addToWindow outcome)
      mail := { s.mail with
        toPool := Tab.put s.mail.toPool l (s.mail.toPool.get l ++ [{ bytes := bytes, outcome := outcome }]) } } : State) := by
  rw [exec, execLanePacket, if_pos h]
  rfl

/-- A window is full with its 1,000th packet (R80). -/
theorem addToWindow_of_full {outcome : PacketOutcome} (full : 1000 ≤ y.windowPackets + 1) :
    y.addToWindow outcome = { y with
      windowPackets := 0, windowUncorrectable := 0
      windowsDone := y.windowsDone ++ [y.windowUncorrectable + if outcome = .uncorrectable then 1 else 0] } :=
  if_neg (Nat.not_lt.mpr full)

theorem addToWindow_of_open {outcome : PacketOutcome} (more : ¬ 1000 ≤ y.windowPackets + 1) :
    y.addToWindow outcome = { y with
      windowPackets := y.windowPackets + 1
      windowUncorrectable := y.windowUncorrectable + if outcome = .uncorrectable then 1 else 0 } :=
  if_pos (Nat.lt_of_not_le more)

/-- UNSETTLED brings the recheck timer of a LOCKED lane to within 500 ms (R77, R80). -/
theorem unsettledAt_recheckTimer (y : Lane) (now : Time) : (y.unsettledAt now).recheckTimer =
    match y.recheckTimer with
    | none => none
    | some t =>
      if y.state = .locked ∧ 2147483648 ≤ (now - t).toNat ∧ 500 < (t - now).toNat then some (now + 500#32)
      else some t := by
  by_cases locked : y.state = .locked
  · unfold Lane.unsettledAt
    cases y.recheckTimer with
    | none => simp only [locked]
    | some t =>
      have left : recheckUnsettledMs < msLeft now t ↔ 2147483648 ≤ (now - t).toNat ∧ 500 < (t - now).toNat := by
        unfold msLeft due
        by_cases reached : elapsed now t < 2147483648
        · rw [if_pos (decide_eq_true reached)]
          exact ⟨fun none => absurd none (Nat.not_lt_zero _), fun both => absurd reached (Nat.not_lt.mpr both.1)⟩
        · rw [if_neg (by simpa using reached)]
          exact ⟨fun more => ⟨Nat.not_lt.mp reached, more⟩, fun both => both.2⟩
      simp only [locked, left, true_and]
      rfl
  · rw [unsettledAt_of_not_locked locked]
    cases y.recheckTimer with
    | none => rfl
    | some t => simp only [locked, false_and, if_false]

theorem unsettledAt_eq {timer : Option Time} (y : Lane) (now : Time) (h : (y.unsettledAt now).recheckTimer = timer) :
    y.unsettledAt now = { y with unsettled := some (now + 60000#32), recheckTimer := timer } := by
  subst h
  rfl

theorem exec_errorRateWindowComplete {bad : Nat} {rest : List Nat} (has : (s.lane l).windowsDone = bad :: rest) :
    exec (.errorRateWindowComplete l) s =
      .next (completeWindow l bad (s.modLane l fun x => { x with windowsDone := rest })) := by
  simp only [exec, execErrorRateWindowComplete, has]

/-- Settles O48: a packet counted by its outcome and added to the window; a completed window against the threshold. -/
theorem packetsCountAndUnsettleTheLane : Obligations.PacketsCountAndUnsettleTheLane := by
  intro l s x
  refine ⟨fun outcome bytes h => ?_, fun outcome bytes h => ?_, fun bad rest has => ⟨fun below => ?_, fun above => ?_⟩,
    fun t0 timer reached => ?_⟩
  · intro bad full
    rw [exec_lanePacket h]
    refine congrArg (fun y => Host.Outcome.next ({ s with lanes := Tab.put s.lanes l y, mail := _ } : State)) ?_
    by_cases window : 1000 ≤ x.windowPackets + 1
    · have full_eq : full = true := decide_eq_true window
      simp only [full_eq, if_true]
      cases outcome <;> exact addToWindow_of_full window
    · have open_eq : full = false := decide_eq_false window
      simp only [open_eq]
      cases outcome <;> exact addToWindow_of_open window
  · rw [exec, execLanePacket, if_neg h]
  · rw [exec_errorRateWindowComplete has, completeWindow_eq, if_neg (Nat.not_le.mpr below)]
    rfl
  · rw [exec_errorRateWindowComplete has, completeWindow_eq, if_pos above,
      unsettledAt_eq _ _ (unsettledAt_recheckTimer { s.lane l with windowsDone := rest } s.now)]
    by_cases clear : x.unsettled = none
    · rw [if_pos clear, if_pos clear]
      refine congrArg Host.Outcome.next (Eq.trans (acted_reportLane (s := s) (memos := s.store.memos) (m := s.mail)
        .laneUnsettled ?_) ?_) <;> rfl
    · rw [if_neg clear, if_neg clear, List.append_nil]
      rfl
  · rw [exec, execUnsettledExpiry, if_pos (timerDue_of_reached timer reached)]
    rfl

end Sys2Proof.Machine
end

section
/-! What the memo store takes from the lanes besides lookups (R99 to R101). -/

namespace Sys2Proof.Machine

variable {s t : State} {l : LaneId} {m : MemoId} {x : PlanIndex} {rest : List StoreMsg}

theorem storeMsg_of_waiting {q : StoreMsg} (h : s.mail.toStore.get l = q :: rest) : s.storeMsg l = some q := by
  unfold State.storeMsg
  rw [h, List.head?_cons]

theorem popStore_of_waiting {q : StoreMsg} (h : s.mail.toStore.get l = q :: rest) :
    popStore l s = s.setMail { s.mail with toStore := Tab.put s.mail.toStore l rest } := by
  unfold popStore
  rw [h, List.tail_cons]

/-! ## The channel's memo: found, allocated, or none (R95, R101) -/

theorem findOrAllocate_of_tag (tag : (s.memo m).tag = some x) (unique : ∀ k, (s.memo k).tag = some x → k = m) :
    findOrAllocate x s = some (m, false, makeRecent m s) := by
  simp only [findOrAllocate, memoOf_eq_some tag unique]

theorem findOrAllocate_of_victim (none : ∀ k, (s.memo k).tag ≠ some x) (victim : s.victim = some m) :
    findOrAllocate x s = some (m, true, allocate m x s) := by
  simp only [findOrAllocate, memoOf_eq_none.mpr none, victim]

theorem findOrAllocate_of_no_victim (none : ∀ k, (s.memo k).tag ≠ some x) (victim : s.victim = .none) :
    findOrAllocate x s = .none := by
  simp only [findOrAllocate, memoOf_eq_none.mpr none, victim]

theorem writeMemo_eq (f : Params → Params) (m : MemoId) (s : State) : writeMemo f m s =
    s.setMemo m { s.memo m with fields := withRate ((s.memo m).tag.bind s.bandwidth) (f (s.memo m).fields) } := rfl

/-- A restart allocation that finds the channel's memo: it takes the lane's fields, unless it is another lane's (R101). -/
theorem restartMemo_of_tag {f : Params} (tag : (s.memo m).tag = some x) (unique : ∀ k, (s.memo k).tag = some x → k = m) :
    restartMemo l x f s = answerLane l (.restart x (some m))
      ((s.setStore { s.store with order := mostRecent m s.store.order }).setStore { s.store with
        memos := if s.keptByAnother l x = true then s.store.memos else
          Tab.put s.store.memos m { s.memo m with fields := withRate (s.bandwidth x) f }
        order := mostRecent m s.store.order }) := by
  unfold restartMemo
  simp only [findOrAllocate_of_tag tag unique, Bool.not_false, Bool.true_and]
  refine congrArg (answerLane l (.restart x (some m))) ?_
  split
  · rfl
  · have bandwidth : (s.memo m).tag.bind (makeRecent m s).bandwidth = s.bandwidth x := by rw [tag]; rfl
    rw [writeMemo_eq, makeRecent_memo, bandwidth]
    rfl

/-- A restart allocation that allocates the victim (R95, R101). -/
theorem restartMemo_of_victim {f : Params} (none : ∀ k, (s.memo k).tag ≠ some x) (victim : s.victim = some m) :
    restartMemo l x f s = answerLane l (.restart x (some m)) (s.setStore { s.store with
      memos := Tab.put s.store.memos m { tag := some x, pinned := false, fields := withRate (s.bandwidth x) f }
      order := mostRecent m s.store.order }) := by
  unfold restartMemo
  simp only [findOrAllocate_of_victim none victim, Bool.not_true, Bool.false_and, Bool.false_eq_true, if_false]
  refine congrArg (answerLane l (.restart x (some m))) ?_
  rw [writeMemo_eq, allocate_memo, if_pos rfl]
  refine congrArg (fun v => s.setStore { s.store with memos := v, order := mostRecent m s.store.order }) ?_
  exact Tab.put_put ..

theorem exec_restartAllocation {f : Params} (h : s.mail.toStore.get l = .restart x f :: rest) :
    exec (.restartAllocation l) s =
      .next (restartMemo l x f (popStore l s)) := by
  simp only [exec, execRestartAllocation, storeMsg_of_waiting h]

/-- Settles O20: each notice moves one memo or one lane's count; a restart allocation's memo is found, allocated, or not
there. -/
theorem storeTakesLaneMessages : Obligations.StoreTakesLaneMessages := by
  refine ⟨fun l rest s => ⟨fun m waiting => ?_, fun x waiting => ?_⟩, fun l x f rest s waiting => ?_⟩
  · simp only [exec, execLockNotice, storeMsg_of_waiting waiting, popStore_of_waiting waiting]
    rfl
  · simp only [exec, execReleaseNotice, storeMsg_of_waiting waiting, popStore_of_waiting waiting]
    rfl
  · intro fields mail another
    rw [exec_restartAllocation waiting]
    refine ⟨fun m tag unique => ?_, fun none => ⟨fun m victim => ?_, fun victim => ?_⟩⟩
    · rw [restartMemo_of_tag (s := popStore l s) tag unique, popStore_of_waiting waiting]
      refine congrArg (fun v => Host.Outcome.next ({ s with
        store := { s.store with memos := v, order := mostRecent m s.store.order }, mail := mail (some m) } : State)) ?_
      exact if_congr (keptByAnother_iff s l x) rfl rfl
    · rw [restartMemo_of_victim (s := popStore l s) none victim, popStore_of_waiting waiting]
      rfl
    · unfold restartMemo
      rw [findOrAllocate_of_no_victim (s := popStore l s) none victim, popStore_of_waiting waiting]
      rfl

end Sys2Proof.Machine
end

section
/-! The fall of a lane's share count (R84) and the removal of a subscription (R131), with all they change. -/

namespace Sys2Proof.Machine

variable {s : State} {p q : Port} {i j : SubId} {l k : LaneId} {x : Sub}

/-! ## The fall of a share count (R84) -/

/-- The share count of a lane lowered by 1, before R84 looks at it. -/
def shareFallen (l : LaneId) (s : State) : State := s.modAdmLane l (fun x => { x with share := x.share - 1 })

theorem lowerShare_eq (l : LaneId) (s : State) :
    lowerShare l s =
      if 1 < (s.admLane l).share then shareFallen l s
      else if s.plan.settings.linger = 0 then releaseLane l (shareFallen l s)
      else (shareFallen l s).setLane l { s.lane l with lingerStart := some s.now } := by
  have share : ((shareFallen l s).admLane l).share = (s.admLane l).share - 1 := by
    simp [shareFallen, State.modAdmLane]
  by_cases many : 1 < (s.admLane l).share
  · rw [if_pos many]
    have stays : ((shareFallen l s).admLane l).share ≠ 0 := by omega
    exact if_neg stays
  · rw [if_neg many]
    have gone : ((shareFallen l s).admLane l).share = 0 := by omega
    exact if_pos gone

theorem lowerShare_adm (l : LaneId) (s : State) :
    (lowerShare l s).adm = { s.adm with
      lanes := Tab.put s.adm.lanes l { s.admLane l with share := (s.admLane l).share - 1 } } := by
  rw [lowerShare_eq]
  split
  · rfl
  · split
    · exact (touches_releaseLane _ l).same .adm (by decide)
    · rfl

theorem afterFall_one (l : LaneId) (s : State) :
    afterFall s l 1 =
      if 1 < (s.admLane l).share then s.lane l
      else if s.plan.settings.linger = 0 then freed (s.lane l)
      else { s.lane l with lingerStart := some s.now } := by
  simp [afterFall]

theorem lowerShare_lane (l k : LaneId) (s : State) :
    (lowerShare l s).lane k = if k = l then afterFall s l 1 else s.lane k := by
  have same : ∀ k, (shareFallen l s).lane k = s.lane k := fun _ => rfl
  rw [lowerShare_eq, afterFall_one]
  simp only [eq_comm (a := k)]
  split
  · rw [same]
    split
    · next e => rw [e]
    · rfl
  · split
    · rw [releaseLane_lane, released_eq_freed, same, same]
    · rw [State.setLane_lane, same]

theorem leavesAtFall_one : leavesAtFall s l 1 = true ↔ ¬ 1 < (s.admLane l).share ∧ s.plan.settings.linger = 0 := by
  simp [leavesAtFall]

theorem freeLane_mail_eq (l : LaneId) (s : State) :
    (freeLane l s).mail = { s.mail with toStore := (freeLane l s).mail.toStore } := by
  unfold freeLane
  cases (s.lane l).channel <;> rfl

/-- What a lane that is released at the fall tells the store and the admission controller; any other keeps silent. -/
theorem lowerShare_mail (l : LaneId) (s : State) :
    (lowerShare l s).mail = { s.mail with
        toStore := (lowerShare l s).mail.toStore
        toAdm := s.mail.toAdm ++ if leavesAtFall s l 1 = true then [AdmMsg.toFree l] else [] } ∧
      ∀ k, (lowerShare l s).mail.toStore.get k = s.mail.toStore.get k ++ if k = l then fallTells s l 1 else [] := by
  unfold fallTells
  by_cases leaves : leavesAtFall s l 1 = true
  · simp only [if_pos leaves]
    obtain ⟨last, linger⟩ := leavesAtFall_one.mp leaves
    rw [lowerShare_eq, if_neg last, if_pos linger]
    have told := (freeLane_mail l (shareFallen l s)).1
    have rest := freeLane_mail_eq l (shareFallen l s)
    refine ⟨?_, fun k => ?_⟩
    · unfold releaseLane
      rw [tellAdmission_eq, State.setMail_mail, rest]
      rfl
    · have store : (releaseLane l (shareFallen l s)).mail.toStore = (freeLane l (shareFallen l s)).mail.toStore := rfl
      rw [store, told, Tab.get_put]
      by_cases e : k = l
      · subst e
        rw [if_pos rfl, if_pos rfl]
        rfl
      · rw [if_neg (Ne.symm e), if_neg e, List.append_nil]
        rfl
  · have silent : (lowerShare l s).mail = s.mail := by
      rw [lowerShare_eq]
      split
      · rfl
      · next last =>
        rw [if_neg fun linger => leaves (leavesAtFall_one.mpr ⟨last, linger⟩)]
        rfl
    simp only [if_neg leaves, silent, List.append_nil, ite_self]
    exact ⟨trivial, fun _ => trivial⟩

/-! ## The removal of a subscription (R131) -/

/-- The committed load of a port without a subscription's charge, which an OVERLOAD one does not have (R121). -/
def committedWithout (s : State) (p : Port) (x : Sub) : Nat :=
  if x.overload = true then (s.admPort p).committed else (s.admPort p).committed - x.charge

/-- The charge and the record of a subscription taken off a port, before the lane's share count falls. -/
def struckOff (p : Port) (i : SubId) (x : Sub) (s : State) : State :=
  s.setAdmPort p { s.admPort p with committed := committedWithout s p x, subs := Tab.put (s.admPort p).subs i none }

theorem removeSub_eq (p : Port) (i : SubId) (x : Sub) (s : State) :
    removeSub p i x s = lowerShare x.lane (struckOff p i x s) := by
  unfold removeSub struckOff committedWithout
  by_cases o : x.overload = true
  · simp only [if_pos o, State.setSub]
  · simp only [if_neg o, State.setSub, State.modAdmPort, State.setAdmPort_admPort, if_pos]
    simp [State.setAdmPort, State.admPort, State.setAdm]

theorem struckOff_sub : (struckOff p i x s).sub p j = if j = i then none else s.sub p j := by
  unfold State.sub struckOff
  simp [eq_comm]

theorem removeSub_admLanes (p : Port) (i : SubId) (x : Sub) (s : State) :
    (removeSub p i x s).adm.lanes =
      Tab.put s.adm.lanes x.lane { s.admLane x.lane with share := (s.admLane x.lane).share - 1 } := by
  rw [removeSub_eq, lowerShare_adm]
  rfl

theorem removeSub_lastServed (p : Port) (i : SubId) (x : Sub) (s : State) :
    (removeSub p i x s).adm.lastServed = s.adm.lastServed := by
  rw [removeSub_eq, lowerShare_adm]
  rfl

theorem removeSub_seen (p : Port) (i : SubId) (x : Sub) (s : State) (l : LaneId) :
    ((removeSub p i x s).admLane l).seen = (s.admLane l).seen := by
  unfold State.admLane
  rw [removeSub_admLanes, Tab.get_put]
  split
  · next e => rw [← e]; rfl
  · rfl

theorem removeSub_admPort (p q : Port) (i : SubId) (x : Sub) (s : State) :
    (removeSub p i x s).admPort q = (struckOff p i x s).admPort q := by
  unfold State.admPort
  rw [removeSub_eq, lowerShare_adm]

theorem removeSub_sub : (removeSub p i x s).sub p j = if j = i then none else s.sub p j := by
  rw [← struckOff_sub, State.sub, State.sub, removeSub_admPort]

theorem removeSub_lane (p : Port) (i : SubId) (x : Sub) (s : State) (k : LaneId) :
    (removeSub p i x s).lane k = if k = x.lane then afterFall s k 1 else s.lane k := by
  rw [removeSub_eq, lowerShare_lane]
  split
  · next e => rw [e]; rfl
  · rfl

theorem removeSub_mail (p : Port) (i : SubId) (x : Sub) (s : State) :
    (removeSub p i x s).mail = { s.mail with
        toStore := (removeSub p i x s).mail.toStore
        toAdm := s.mail.toAdm ++ if leavesAtFall s x.lane 1 = true then [AdmMsg.toFree x.lane] else [] } ∧
      ∀ k, (removeSub p i x s).mail.toStore.get k =
        s.mail.toStore.get k ++ if k = x.lane then fallTells s k 1 else [] := by
  rw [removeSub_eq]
  obtain ⟨mail, tells⟩ := lowerShare_mail x.lane (struckOff p i x s)
  refine ⟨mail, fun k => (tells k).trans ?_⟩
  split
  · next e => rw [e]; rfl
  · rfl

end Sys2Proof.Machine
end

section
/-! Re-admission (R135): which subscriptions are let in, and what it changes. -/

namespace Sys2Proof.Machine

variable {s b v : State} {p q : Port} {i j : SubId} {x : Sub} {subs : SubId → Option Sub} {ids rest done : List SubId}

/-! ## Notices in a port's record (R173) -/

/-- A port's record after some notices are queued, one after the other. -/
def PortRec.enqueued (r : PortRec) (notices : List Notice) : PortRec :=
  notices.foldl (fun r n => { r with notices := enqueueNotice n r.notices }) r

/-- Queued notices change the record's notices and nothing else. -/
theorem PortRec.enqueued_eq (r : PortRec) (notices : List Notice) :
    r.enqueued notices = { r with notices := (r.enqueued notices).notices } := by
  induction notices generalizing r with
  | nil => rfl
  | cons n rest ih => exact ih { r with notices := enqueueNotice n r.notices }

theorem PortRec.enqueued_link (r : PortRec) (notices : List Notice) : (r.enqueued notices).link = r.link := by
  rw [r.enqueued_eq notices]

/-- The queued notices follow from the record's notices alone. -/
theorem PortRec.enqueued_notices {r y : PortRec} (h : r.notices = y.notices) (notices : List Notice) :
    (r.enqueued notices).notices = (y.enqueued notices).notices := by
  induction notices generalizing r y with
  | nil => exact h
  | cons n rest ih =>
    exact ih (r := { r with notices := enqueueNotice n r.notices })
      (y := { y with notices := enqueueNotice n y.notices }) (congrArg (enqueueNotice n) h)

theorem PortRec.enqueued_append (r : PortRec) (first second : List Notice) :
    r.enqueued (first ++ second) = (r.enqueued first).enqueued second :=
  List.foldl_append

/-! ## The ids let in, one more (R135) -/

theorem chargesOf_append_one (h : subs i = some x) : chargesOf subs (done ++ [i]) = chargesOf subs done + x.charge := by
  simp [chargesOf, h]

theorem letBack_of_not_mem (h : i ∉ ids) : letBack s p subs ids i = subs i := if_neg h

theorem letBack_append_one (h : subs i = some x) (j : SubId) :
    letBack s p subs (done ++ [i]) j =
      if i = j then some (reportedAs { x with overload := false } (backState s p x)) else letBack s p subs done j := by
  unfold letBack
  by_cases e : i = j
  · subst e
    rw [if_pos rfl, if_pos (by simp), h]
    rfl
  · have mem : j ∈ done ++ [i] ↔ j ∈ done := by simp [Ne.symm e]
    simp only [mem, if_neg e]

theorem backNotices_append_one (h : subs i = some x) :
    backNotices s p subs (done ++ [i]) = backNotices s p subs done ++
      if backState s p x = x.reported then [] else [.streamState i (some (backState s p x, x.lane, x.charge))] := by
  unfold backNotices
  rw [List.filterMap_append]
  congr 1
  simp only [List.filterMap_cons, h, List.filterMap_nil]
  split <;> simp_all

/-- What a subscription let in derives follows from its port's link and its lane's state. -/
theorem backState_congr (link : (v.port p).link = (b.port p).link)
    (seen : ∀ l, (v.admLane l).seen = (b.admLane l).seen) (x : Sub) : backState v p x = backState b p x := by
  unfold backState
  rw [link, seen]

theorem letBack_congr (back : ∀ x, backState v p x = backState b p x) :
    letBack v p subs ids j = letBack b p subs ids j := by
  unfold letBack
  simp only [back]

theorem backNotices_congr (back : ∀ x, backState v p x = backState b p x) :
    backNotices v p subs ids = backNotices b p subs ids := by
  unfold backNotices
  simp only [back]

/-- On a lane that is not FREE a subscription's derived state is the row of R119. -/
theorem derivedState_eq_rowFor (busy : (s.admLane x.lane).seen ≠ .free) :
    s.derivedState p x = some (rowFor (s.port p).link x.overload x.liveMark (s.admLane x.lane).seen) := by
  unfold State.derivedState rowFor
  cases h : (s.admLane x.lane).seen with
  | free => exact absurd h busy
  | acquire | locked | coast | holdoff => simp [apply_ite some]

/-! ## One step of re-admission (R135) -/

/-- The record and the charge of a subscription let in, before its notice. -/
def letInRecord (p : Port) (i : SubId) (x : Sub) (s : State) : State :=
  s.setAdmPort p { s.admPort p with
    committed := (s.admPort p).committed + x.charge
    subs := Tab.put (s.admPort p).subs i (some (reportedAs { x with overload := false } (backState s p x))) }

/-- A subscription let in: its record and charge, and a notice where its state changes. -/
def letInOne (p : Port) (i : SubId) (x : Sub) (s : State) : State :=
  if backState s p x = x.reported then letInRecord p i x s
  else raiseNotice (.streamState i (some (backState s p x, x.lane, x.charge))) p (letInRecord p i x s)

theorem readmitOne_of_absent (h : s.sub p i = none) : readmitOne p i s = s := by
  simp only [readmitOne, h]

theorem readmitOne_of_unfit (h : s.sub p i = some x)
    (unfit : ¬ (x.overload = true ∧ (s.admPort p).committed + x.charge ≤ (s.admPort p).capacity)) :
    readmitOne p i s = s := by
  simp only [readmitOne, h, AdmPort.fits]
  exact if_neg (by simpa using unfit)

theorem readmitOne_of_fit (h : s.sub p i = some x) (busy : (s.admLane x.lane).seen ≠ .free)
    (fit : x.overload = true ∧ (s.admPort p).committed + x.charge ≤ (s.admPort p).capacity) :
    readmitOne p i s = letInOne p i x s := by
  have fits : (x.overload && (s.admPort p).fits x.charge) = true := by simpa [AdmPort.fits] using fit
  simp only [readmitOne, h, fits, if_true]
  generalize hw : (s.modAdmPort p _).setSub p i _ = w
  have found : w.sub p i = some { x with overload := false } := by rw [← hw]; simp
  have derived : w.derivedState p { x with overload := false } = some (backState s p x) := by
    rw [← hw]
    exact derivedState_eq_rowFor busy
  have record : w.setSub p i (some (reportedAs { x with overload := false } (backState s p x))) = letInRecord p i x s := by
    rw [← hw]
    simp [State.setSub, State.modAdmPort, letInRecord, State.setAdmPort, State.admPort, State.setAdm]
  unfold rederive letInOne
  simp only [found, derived]
  rw [← record]
  by_cases same : backState s p x = x.reported
  · simp [same, reportedAs]
  · simp [same, reportedAs]

theorem touches_letInOne : Touches [.adm, .ports] s (letInOne p i x s) := by
  unfold letInOne
  split
  · exact (touches_setAdmPort s p _).mono (by decide)
  · exact ((touches_setAdmPort s p _).mono (by decide)).trans ((touches_raiseNotice _ _ p).mono (by decide))

theorem letInOne_adm : (letInOne p i x s).adm = (letInRecord p i x s).adm := by
  unfold letInOne
  split
  · rfl
  · exact (touches_raiseNotice _ _ p).same .adm (by decide)

theorem letInRecord_admPort :
    (letInRecord p i x s).admPort q = if p = q then { s.admPort p with
      committed := (s.admPort p).committed + x.charge
      subs := Tab.put (s.admPort p).subs i (some (reportedAs { x with overload := false } (backState s p x))) }
      else s.admPort q := State.setAdmPort_admPort ..

theorem letInOne_admPort : (letInOne p i x s).admPort q = (letInRecord p i x s).admPort q :=
  congrArg (fun a : Admission => a.ports.get q) letInOne_adm

theorem letInOne_sub :
    (letInOne p i x s).sub p j =
      if i = j then some (reportedAs { x with overload := false } (backState s p x)) else s.sub p j := by
  unfold State.sub
  rw [letInOne_admPort, letInRecord_admPort, if_pos rfl, Tab.get_put]

theorem letInOne_port_other (h : q ≠ p) : (letInOne p i x s).port q = s.port q := by
  unfold letInOne
  split
  · rfl
  · rw [raiseNotice_port, if_neg (Ne.symm h)]
    rfl

theorem letInOne_port (attached : (s.port p).link = .attached) :
    (letInOne p i x s).port p = (s.port p).enqueued
      (if backState s p x = x.reported then [] else [.streamState i (some (backState s p x, x.lane, x.charge))]) := by
  unfold letInOne
  split
  · rfl
  · rw [raiseNotice_port, if_pos rfl]
    exact raised_of_attached _ attached

/-! ## The whole of re-admission (R135) -/

/-- What a port's re-admission has made of a state once it has let some ids in. -/
structure Readmitted (b : State) (p : Port) (subs : SubId → Option Sub) (done : List SubId) (v : State) : Prop where
  touches : Touches [.adm, .ports] b v
  lanes : v.adm.lanes = b.adm.lanes
  lastServed : v.adm.lastServed = b.adm.lastServed
  others : ∀ q, q ≠ p → v.admPort q = b.admPort q
  own : v.admPort p = { b.admPort p with
    committed := (b.admPort p).committed + chargesOf subs done, subs := (v.admPort p).subs }
  sub : ∀ j, v.sub p j = letBack b p subs done j
  otherPorts : ∀ q, q ≠ p → v.port q = b.port q
  port : v.port p = (b.port p).enqueued (backNotices b p subs done)

theorem Readmitted.start (h : ∀ j, b.sub p j = subs j) : Readmitted b p subs [] b where
  touches := Touches.refl _ b
  lanes := rfl
  lastServed := rfl
  others := fun _ _ => rfl
  own := rfl
  sub := h
  otherPorts := fun _ _ => rfl
  port := rfl

theorem Readmitted.backState (h : Readmitted b p subs done v) (x : Sub) : backState v p x = backState b p x :=
  backState_congr (by rw [h.port, PortRec.enqueued_link]) (fun l => by rw [State.admLane, State.admLane, h.lanes]) x

theorem Readmitted.letInOne (h : Readmitted b p subs done v) (attached : (b.port p).link = .attached)
    (found : subs i = some x) : Readmitted b p subs (done ++ [i]) (letInOne p i x v) where
  touches := h.touches.trans touches_letInOne
  lanes := (congrArg Admission.lanes letInOne_adm).trans h.lanes
  lastServed := (congrArg Admission.lastServed letInOne_adm).trans h.lastServed
  others := fun q hq => by rw [letInOne_admPort, letInRecord_admPort, if_neg (Ne.symm hq), h.others q hq]
  own := by
    rw [letInOne_admPort, letInRecord_admPort, if_pos rfl, h.own, chargesOf_append_one found]
    simp only [Nat.add_assoc]
  sub := fun j => by rw [letInOne_sub, letBack_append_one found, h.backState, h.sub]
  otherPorts := fun q hq => (letInOne_port_other hq).trans (h.otherPorts q hq)
  port := by
    have link : (v.port p).link = .attached := by rw [h.port, PortRec.enqueued_link, attached]
    rw [letInOne_port link, h.backState, backNotices_append_one found, PortRec.enqueued_append, h.port]

/-- Re-admission over ids not looked at yet lets in what fits, in their order. -/
theorem Readmitted.forEach (attached : (b.port p).link = .attached)
    (busy : ∀ j x, subs j = some x → (b.admLane x.lane).seen ≠ .free) (ids : List SubId) :
    ∀ {done : List SubId} {v : State}, Readmitted b p subs done v → ids.Nodup → (∀ i ∈ ids, i ∉ done) →
      Readmitted b p subs
        (done ++ letIn (b.admPort p).capacity subs ((b.admPort p).committed + chargesOf subs done) ids)
        (Machine.forEach ids (readmitOne p) v) := by
  induction ids with
  | nil =>
    intro done v h _ _
    simpa [letIn] using h
  | cons i rest ih =>
    intro done v h distinct fresh
    obtain ⟨once, distinct⟩ := List.nodup_cons.mp distinct
    have later : ∀ j ∈ rest, j ∉ done := fun j hj => fresh j (List.mem_cons_of_mem i hj)
    have here : v.sub p i = subs i := (h.sub i).trans (letBack_of_not_mem (fresh i List.mem_cons_self))
    rw [forEach_cons]
    cases found : subs i with
    | none =>
      rw [readmitOne_of_absent (here.trans found)]
      simp only [letIn, found]
      exact ih h distinct later
    | some x =>
      have lane : (v.admLane x.lane).seen ≠ .free := by
        rw [State.admLane, h.lanes]
        exact busy i x found
      have fits : (v.admPort p).committed + x.charge ≤ (v.admPort p).capacity ↔
          (b.admPort p).committed + chargesOf subs done + x.charge ≤ (b.admPort p).capacity := by
        rw [h.own]
      simp only [letIn, found]
      by_cases fit : x.overload = true ∧
          (b.admPort p).committed + chargesOf subs done + x.charge ≤ (b.admPort p).capacity
      · rw [if_pos fit, readmitOne_of_fit (here.trans found) lane ⟨fit.1, fits.mpr fit.2⟩, List.append_cons,
          Nat.add_assoc, ← chargesOf_append_one found]
        refine ih (h.letInOne attached found) distinct fun j hj => ?_
        simpa [later j hj] using ne_of_mem_of_not_mem hj once
      · rw [if_neg fit, readmitOne_of_unfit (here.trans found) fun ⟨o, c⟩ => fit ⟨o, fits.mp c⟩]
        exact ih h distinct later

theorem readmitted_readmit (attached : (b.port p).link = .attached) (h : ∀ j, b.sub p j = subs j)
    (busy : ∀ j x, subs j = some x → (b.admLane x.lane).seen ≠ .free) :
    Readmitted b p subs (letIn (b.admPort p).capacity subs (b.admPort p).committed [0, 1, 2, 3, 4, 5]) (readmit p b) :=
  Readmitted.forEach attached busy allIds (.start h) (by decide) fun _ _ => List.not_mem_nil

end Sys2Proof.Machine
end

section
/-! UNSUBSCRIBE (R131): its refusals, and an accepted one from the removal to the downlinks. -/

namespace Sys2Proof.Machine

variable {s b v : State} {p q : Port} {i j : SubId} {l : LaneId} {x : Sub} {subs : SubId → Option Sub} {done : List SubId}

/-! ## The end of an event: the moves toward the target and the downlinks (R35, R175) -/

theorem arbitrated_link (r : PortRec) (queue : List Entry) : (r.arbitrated queue).link = r.link := by
  unfold PortRec.arbitrated
  split
  · split <;> rfl
  · rfl

/-- The end of an event leaves what the target level follows from. -/
theorem settle_retarget_target (before : Target) (v : State) : (settle (retarget before v)).target = v.target := by
  have touched : Touches [.fe, .ports] v (settle (retarget before v)) := touches_retarget_settle
  refine target_congr (fun l => ?_) (touched.same .plan (by decide)) fun q => ?_
  · exact congrArg (fun lanes : Vector Lane 6 => decide ((lanes.get l).state ≠ .free)) (touched.same .lanes (by decide))
  · have link : ((settle (retarget before v)).port q).link = (v.port q).link := by
      rw [settle_port, arbitrated_link]
      exact congrArg (fun ports : PerPort PortRec => (ports.get q).link)
        ((touches_retarget v before).same .ports (by decide))
    unfold State.demandsIdle State.admPort
    rw [link, touched.same .adm (by decide)]

/-- The front end after an event that leaves it alone but for the move toward the target (R35). -/
theorem settle_retarget_fe (fe : v.fe = s.fe) (now : v.now = s.now) :
    (settle (retarget s.target v)).fe = steered s (settle (retarget s.target v)).target := by
  rw [settle_retarget_target, settle_fe, retarget_fe, steered_eq, fe, now]

theorem settle_retarget_port (before : Target) (v : State) (q : Port) :
    (settle (retarget before v)).port q = (v.port q).arbitrated (v.queue q) := by
  have touched := touches_retarget v before
  have port : (retarget before v).port q = v.port q := congrArg (PerPort.get · q) (touched.same .ports (by decide))
  have queue : (retarget before v).queue q = v.queue q :=
    congrArg (fun a : Pool => a.queues.get q) (touched.same .pool (by decide))
  rw [settle_port, port, queue]

/-- An answer, a notice and some more notices: an idle downlink sends the answer first (R175). -/
theorem arbitrated_enqueued {r : PortRec} {queue : List Entry} (h : r.Rests queue) (attached : r.link = .attached)
    (asked : r.requests ≠ []) (status : Status) (fields : List Byte) (n : Notice) (more : List Notice) :
    (((r.responded status fields).raised n).enqueued more).arbitrated queue =
      (r.answeredNoticed status fields n).enqueued more := by
  have raised : (r.responded status fields).raised n =
      { r.responded status fields with notices := enqueueNotice n r.notices } := by
    unfold PortRec.responded
    cases hr : r.requests with
    | nil => exact absurd hr asked
    | cons y rest => exact raised_of_attached n attached
  have notices : (((r.responded status fields).raised n).enqueued more).notices =
      ((r.answeredNoticed status fields n).enqueued more).notices :=
    PortRec.enqueued_notices (by rw [raised]; rfl) more
  rw [PortRec.enqueued_eq, PortRec.enqueued_eq (r.answeredNoticed status fields n), notices, raised]
  exact arbitrated_responded h attached asked status fields _

/-! ## The removal with its answer and notice (R131) -/

/-- The four counters that answer an UNSUBSCRIBE (R131). -/
def counterFields (x : Sub) : List Byte :=
  enc32 x.delivered ++ (enc32 x.marked ++ (enc32 x.errorDropped ++ enc32 x.overflowDropped))

/-- The state once a subscription is removed, its request answered and its notice raised. -/
def removedAnswered (p : Port) (i : SubId) (x : Sub) (s : State) : State :=
  raiseRemoved p i (respond p .ok (counterFields x) (removeSub p i x s))

theorem unsubscribeAt_eq (p : Port) (i : SubId) (x : Sub) (s : State) :
    unsubscribeAt p i x s = retarget s.target
      (if x.overload = true then removedAnswered p i x s else readmit p (removedAnswered p i x s)) := by
  unfold unsubscribeAt removedAnswered counterFields
  simp only [List.append_assoc]

theorem touches_answered_removed :
    Touches [.ports] (removeSub p i x s) (removedAnswered p i x s) :=
  (touches_respond _ p _ _).trans (touches_raiseNotice _ _ p)

theorem removedAnswered_adm : (removedAnswered p i x s).adm = (removeSub p i x s).adm :=
  touches_answered_removed.same .adm (by decide)

theorem removedAnswered_sub : (removedAnswered p i x s).sub p j = if j = i then none else s.sub p j := by
  rw [← removeSub_sub (x := x)]
  exact congrArg (fun a : Admission => (a.ports.get p).subs.get j) removedAnswered_adm

theorem removedAnswered_admPort (q : Port) :
    (removedAnswered p i x s).admPort q = (struckOff p i x s).admPort q := by
  rw [← removeSub_admPort]
  exact congrArg (fun a : Admission => a.ports.get q) removedAnswered_adm

theorem removedAnswered_seen (l : LaneId) : ((removedAnswered p i x s).admLane l).seen = (s.admLane l).seen := by
  rw [← removeSub_seen p i x s]
  exact congrArg (fun a : Admission => (a.lanes.get l).seen) removedAnswered_adm

theorem removedAnswered_port (q : Port) :
    (removedAnswered p i x s).port q =
      if p = q then ((s.port p).responded .ok (counterFields x)).raised (.streamState i none) else s.port q := by
  have removed : ∀ r, (removeSub p i x s).port r = s.port r := fun r =>
    congrArg (PerPort.get · r) ((touches_removeSub s p i x).same .ports (by decide))
  unfold removedAnswered raiseRemoved
  rw [raiseNotice_port, respond_port, respond_port, if_pos rfl, removed, removed]
  by_cases e : p = q <;> simp [e]

theorem removedAnswered_link : ((removedAnswered p i x s).port p).link = (s.port p).link := by
  rw [removedAnswered_port, if_pos rfl, raised_link]
  unfold PortRec.responded
  split <;> rfl

/-! ## An accepted UNSUBSCRIBE up to the moves toward the target (R131, R135) -/

/-- The subscriptions of a port without the one of an id. -/
def subsWithout (s : State) (p : Port) (i : SubId) : SubId → Option Sub := fun j => if j = i then none else s.sub p j

/-- The ids that the removal of a subscription lets in: where its charge came off (R131, R135). -/
def letInAfter (s : State) (p : Port) (i : SubId) (x : Sub) : List SubId :=
  if x.overload = true then []
  else letIn (s.admPort p).capacity (subsWithout s p i) (committedWithout s p x) [0, 1, 2, 3, 4, 5]

theorem readmitted_removed (attached : (s.port p).link = .attached)
    (busy : ∀ j v, s.sub p j = some v → (s.admLane v.lane).seen ≠ .free) :
    Readmitted (removedAnswered p i x s) p (subsWithout s p i) (letInAfter s p i x)
      (if x.overload = true then removedAnswered p i x s else readmit p (removedAnswered p i x s)) := by
  have found : ∀ j, (removedAnswered p i x s).sub p j = subsWithout s p i j := fun _ => removedAnswered_sub
  unfold letInAfter
  split
  · exact .start found
  · have own : (removedAnswered p i x s).admPort p = (struckOff p i x s).admPort p := removedAnswered_admPort p
    have lets := readmitted_readmit (removedAnswered_link.trans attached) found fun j v h => by
      rw [removedAnswered_seen]
      unfold subsWithout at h
      split at h
      · exact nomatch h
      · exact busy j v h
    rw [own] at lets
    simpa [struckOff] using lets

end Sys2Proof.Machine
end

section
/-! UNSUBSCRIBE (R131) as a whole. -/

namespace Sys2Proof.Machine

variable {s v : State} {p q : Port} {i j : SubId} {l : LaneId} {x : Sub} {body : List Byte}

/-! ## The state after an accepted UNSUBSCRIBE (R131, R135) -/

/-- The state once re-admission is over, before the front end moves toward the target. -/
def unsubscribedOpen (p : Port) (i : SubId) (x : Sub) (s : State) : State :=
  if x.overload = true then removedAnswered p i x s else readmit p (removedAnswered p i x s)

/-- The state after an accepted UNSUBSCRIBE. -/
def unsubscribed (p : Port) (i : SubId) (x : Sub) (s : State) : State :=
  settle (retarget s.target (unsubscribedOpen p i x s))

theorem settle_unsubscribeAt (p : Port) (i : SubId) (x : Sub) (s : State) :
    settle (unsubscribeAt p i x s) = unsubscribed p i x s := by
  rw [unsubscribeAt_eq]
  rfl

theorem touches_unsubscribedOpen_removed :
    Touches [.adm, .ports] (removeSub p i x s) (unsubscribedOpen p i x s) := by
  have answered : Touches [.adm, .ports] (removeSub p i x s) (removedAnswered p i x s) :=
    touches_answered_removed.mono (by decide)
  unfold unsubscribedOpen
  split
  · exact answered
  · exact answered.trans (touches_readmit _ p)

theorem touches_unsubscribed_removed :
    Touches [.fe, .adm, .ports] (removeSub p i x s) (unsubscribed p i x s) :=
  (touches_unsubscribedOpen_removed.mono (by decide)).trans (touches_retarget_settle.mono (by decide))

theorem touches_unsubscribed :
    Touches [.fe, .lanes, .adm, .ports, .mail] s (unsubscribed p i x s) :=
  ((touches_removeSub s p i x).mono (by decide)).trans (touches_unsubscribed_removed.mono (by decide))

theorem touches_unsubscribedOpen :
    Touches [.lanes, .adm, .ports, .mail] s (unsubscribedOpen p i x s) :=
  ((touches_removeSub s p i x).mono (by decide)).trans (touches_unsubscribedOpen_removed.mono (by decide))

theorem unsubscribed_adm : (unsubscribed p i x s).adm = (unsubscribedOpen p i x s).adm :=
  touches_retarget_settle.same .adm (by decide)

theorem unsubscribed_lane : (unsubscribed p i x s).lane l = if l = x.lane then afterFall s l 1 else s.lane l := by
  rw [← removeSub_lane p i x s l]
  exact congrArg (Vector.get · l) (touches_unsubscribed_removed.same .lanes (by decide))

theorem unsubscribed_mail : (unsubscribed p i x s).mail = (removeSub p i x s).mail :=
  touches_unsubscribed_removed.same .mail (by decide)

theorem unsubscribed_fe : (unsubscribed p i x s).fe = steered s (unsubscribed p i x s).target :=
  settle_retarget_fe (touches_unsubscribedOpen.same .fe (by decide)) (touches_unsubscribedOpen.same .now (by decide))

theorem unsubscribed_port :
    (unsubscribed p i x s).port q = ((unsubscribedOpen p i x s).port q).arbitrated (s.queue q) := by
  unfold unsubscribed
  rw [settle_retarget_port, State.queue, touches_unsubscribedOpen.same .pool (by decide)]
  rfl

/-- A subscription let in derives its state from what the removal leaves as it was. -/
theorem backState_removedAnswered (y : Sub) : backState (removedAnswered p i x s) p y = backState s p y :=
  backState_congr removedAnswered_link removedAnswered_seen y

section
variable (lets : Readmitted (removedAnswered p i x s) p (subsWithout s p i) (letInAfter s p i x) (unsubscribedOpen p i x s))
include lets

theorem unsubscribed_admLanes :
    (unsubscribed p i x s).adm.lanes =
      Tab.put s.adm.lanes x.lane { s.admLane x.lane with share := (s.admLane x.lane).share - 1 } := by
  rw [unsubscribed_adm, lets.lanes, removedAnswered_adm, removeSub_admLanes]

theorem unsubscribed_lastServed : (unsubscribed p i x s).adm.lastServed = s.adm.lastServed := by
  rw [unsubscribed_adm, lets.lastServed, removedAnswered_adm, removeSub_lastServed]

theorem unsubscribed_admPort_other (h : q ≠ p) : (unsubscribed p i x s).admPort q = s.admPort q := by
  rw [State.admPort, unsubscribed_adm, ← State.admPort, lets.others q h, removedAnswered_admPort, struckOff,
    State.setAdmPort_admPort, if_neg (Ne.symm h)]

theorem unsubscribed_admPort :
    (unsubscribed p i x s).admPort p = { s.admPort p with
      committed := committedWithout s p x + chargesOf (subsWithout s p i) (letInAfter s p i x)
      subs := ((unsubscribed p i x s).admPort p).subs } := by
  have own : (removedAnswered p i x s).admPort p = { s.admPort p with
      committed := committedWithout s p x, subs := Tab.put (s.admPort p).subs i none } := by
    rw [removedAnswered_admPort, struckOff, State.setAdmPort_admPort, if_pos rfl]
  have opened : (unsubscribed p i x s).admPort p = (unsubscribedOpen p i x s).admPort p := by
    rw [State.admPort, unsubscribed_adm, ← State.admPort]
  rw [opened]
  refine lets.own.trans ?_
  rw [own]

theorem unsubscribed_sub :
    (unsubscribed p i x s).sub p j = letBack s p (subsWithout s p i) (letInAfter s p i x) j := by
  have opened : (unsubscribed p i x s).sub p j = (unsubscribedOpen p i x s).sub p j :=
    congrArg (fun a : Admission => (a.ports.get p).subs.get j) unsubscribed_adm
  rw [opened, lets.sub, letBack_congr backState_removedAnswered]

theorem unsubscribed_port_other (settled : s.Settled) (h : q ≠ p) : (unsubscribed p i x s).port q = s.port q := by
  rw [unsubscribed_port, lets.otherPorts q h, removedAnswered_port, if_neg (Ne.symm h), arbitrated_settled s settled]

theorem unsubscribed_port_own (settled : s.Settled) (attached : (s.port p).link = .attached)
    (asked : (s.port p).requests ≠ []) :
    (unsubscribed p i x s).port p =
      ((s.port p).answeredNoticed .ok (counterFields x) (.streamState i none)).enqueued
        (backNotices s p (subsWithout s p i) (letInAfter s p i x)) := by
  rw [unsubscribed_port, lets.port, removedAnswered_port, if_pos rfl, backNotices_congr backState_removedAnswered]
  exact arbitrated_enqueued (settled.rests p) attached asked .ok _ _ _

end

/-! ## The command (R122, R131) -/

theorem exec_unsubscribe (h : s.granted p .unsubscribe = some body) :
    exec (.unsubscribe p) s = .next (settle (unsubscribe p body (markServed p s))) := by
  simp only [exec, execUnsubscribe, h]

theorem headBody_of_granted {k : ReqKind} (h : s.granted p k = some body) : s.headBody p k = some body := by
  unfold State.granted at h
  split at h
  · exact h
  · exact nomatch h

/-- An admission request of a port in its turn that is refused. -/
theorem settle_respond_served (settled : s.Settled) (attached : (s.port p).link = .attached) (status : Status)
    (fields : List Byte) : settle (respond p status fields (markServed p s)) = turnedAway s p status fields :=
  settle_respond (markServed p s) settled p attached status fields

theorem unsubscribe_of_range (h : 5 < byteAt body 0) : unsubscribe p body s = respond p .range [] s := by
  have none : finOf 6 (byteAt body 0) = none := dif_neg (by omega)
  simp only [unsubscribe, none]

theorem finOf_of_byteAt (h : byteAt body 0 = i.val) : finOf 6 (byteAt body 0) = some i := by
  rw [h]
  exact dif_pos i.isLt

theorem unsubscribe_of_absent (h : byteAt body 0 = i.val) (absent : s.sub p i = none) :
    unsubscribe p body s = respond p .noSuch [] s := by
  simp only [unsubscribe, finOf_of_byteAt h, absent]

theorem unsubscribe_of_found (h : byteAt body 0 = i.val) (found : s.sub p i = some x) :
    unsubscribe p body s = unsubscribeAt p i x s := by
  simp only [unsubscribe, finOf_of_byteAt h, found]

/-- Settles O33: an accepted UNSUBSCRIBE is the removal with its lane (R84), the answer and the notice, the re-admission
that an induction over the ids gives, and the end of the event. -/
theorem unsubscribeRemovesTheSubscription : Obligations.UnsubscribeRemovesTheSubscription := by
  intro p body s ⟨settled, attached, granted⟩
  have run := exec_unsubscribe granted
  refine ⟨fun range => ?_, fun i id => ⟨fun absent => ?_, fun x found busy => ?_⟩⟩
  · rw [run, unsubscribe_of_range range, settle_respond_served settled attached]
  · rw [run, unsubscribe_of_absent (s := markServed p s) id absent, settle_respond_served settled attached]
  · have lets : Readmitted (removedAnswered p i x (markServed p s)) p _ _ (unsubscribedOpen p i x (markServed p s)) :=
      readmitted_removed (s := markServed p s) attached busy
    have asked : (s.port p).requests ≠ [] := answered_requests_ne (headBody_of_granted granted)
    have mail := removeSub_mail p i x (markServed p s)
    rw [← unsubscribed_mail] at mail
    intro base subs ids
    refine ⟨unsubscribed p i x (markServed p s), ?_, unsubscribed_admLanes lets, unsubscribed_lastServed lets,
      fun q => unsubscribed_admPort_other lets, unsubscribed_admPort lets, fun j => unsubscribed_sub lets,
      fun l => unsubscribed_lane, fun q => unsubscribed_port_other lets settled,
      unsubscribed_port_own lets settled attached asked, unsubscribed_fe, mail.2, ?_⟩
    · rw [run, unsubscribe_of_found (s := markServed p s) id found, settle_unsubscribeAt]
    · have event := (touches_unsubscribed (p := p) (i := i) (x := x) (s := markServed p s)).eq_of_event
      rw [mail.1] at event
      generalize unsubscribed p i x (markServed p s) = t at event ⊢
      exact event

end Sys2Proof.Machine
end

section
/-! What the memo store answers to its requests and to a lookup (R92 to R106): held memos and the victim, the memo a
request names, and an operation on every memo as one table of memos. -/

namespace Sys2Proof.Machine

variable {s : State} {p : Port} {l : LaneId} {m : MemoId} {x : PlanIndex} {body : List Byte}

/-! ## Held memos and the victim (R92, R95) -/

theorem memoHeld_iff :
    s.memoHeld m = true ↔ ∃ l x, (s.memo m).tag = some x ∧ s.store.inUse.get l = some x := by
  refine ⟨fun held => ?_, fun ⟨l, x, tag, used⟩ => memoHeld_of_inUse tag used⟩
  unfold State.memoHeld at held
  split at held
  · exact nomatch held
  · next x tag =>
    obtain ⟨l, used⟩ := inUseLane_isSome.mp held
    exact ⟨l, x, tag, used⟩

/-- A memo of a channel that no lane is counted in use for is not held (R92). -/
theorem memoHeld_of_unused (tag : (s.memo m).tag = some x) (unused : ∀ l, s.store.inUse.get l ≠ some x) :
    s.memoHeld m = false := by
  refine Bool.eq_false_iff.mpr fun held => ?_
  obtain ⟨l, y, tagged, used⟩ := memoHeld_iff.mp held
  rw [tag] at tagged
  exact unused l (used.trans tagged.symm)

/-- The search from the least-recent end finds the last memo of the order that may be taken (R95). -/
theorem victim_eq_some_iff :
    s.victim = some m ↔ ∃ front back, s.store.order = front ++ m :: back ∧ (s.memo m).pinned = false ∧
      s.memoHeld m = false ∧ ∀ k ∈ back, (s.memo k).pinned = true ∨ s.memoHeld k = true := by
  unfold State.victim
  rw [List.find?_eq_some_iff_append]
  constructor
  · rintro ⟨free, back, front, order, passed⟩
    obtain ⟨unpinned, unheld⟩ : (s.memo m).pinned = false ∧ s.memoHeld m = false := by simpa using free
    refine ⟨front.reverse, back.reverse, ?_, unpinned, unheld, fun k hk => ?_⟩
    · simpa using congrArg List.reverse order
    · simpa [or_iff_not_imp_left] using passed k (List.mem_reverse.mp hk)
  · rintro ⟨front, back, order, unpinned, unheld, passed⟩
    refine ⟨by simp [unpinned, unheld], back.reverse, front.reverse, by simp [order], fun k hk => ?_⟩
    simpa [or_iff_not_imp_left] using passed k (List.mem_reverse.mp hk)

theorem victim_eq_none_iff :
    s.victim = none ↔ ∀ k ∈ s.store.order, (s.memo k).pinned = true ∨ s.memoHeld k = true := by
  unfold State.victim
  rw [List.find?_eq_none]
  simp [or_iff_not_imp_left]

/-- Settles O18: the lane behind a held memo is the one the search of R92 finds, and the victim is what the search of
the reversed order finds first. -/
theorem victimIsTheLeastRecentFreeMemo : Obligations.VictimIsTheLeastRecentFreeMemo :=
  fun _ => ⟨fun _ => memoHeld_iff, fun _ => victim_eq_some_iff, victim_eq_none_iff⟩

/-! ## LOOKUP (R97) -/

theorem exec_lookup {rest : List StoreMsg} (waiting : s.mail.toStore.get l = .lookup x :: rest) :
    exec (.lookup l) s = .next (lookupMemo l x (popStore l s)) := by
  simp only [exec, execLookup, storeMsg_of_waiting waiting]

theorem lookupMemo_of_tag (tag : (s.memo m).tag = some x) (unique : ∀ k, (s.memo k).tag = some x → k = m) :
    lookupMemo l x s =
      answerLane l (.lookup x (some (m, (s.memo m).fields))) (makeRecent m (setInUse l (some x) s)) := by
  simp only [lookupMemo, findOrAllocate_of_tag (s := setInUse l (some x) s) tag unique]
  rfl

theorem lookupMemo_of_victim (none : ∀ k, (s.memo k).tag ≠ some x)
    (victim : (setInUse l (some x) s).victim = some m) :
    lookupMemo l x s =
      answerLane l (.lookup x (some (m, Params.absent))) (allocate m x (setInUse l (some x) s)) := by
  simp only [lookupMemo, findOrAllocate_of_victim (s := setInUse l (some x) s) none victim, allocate_memo, if_true]

theorem lookupMemo_of_no_victim (none : ∀ k, (s.memo k).tag ≠ some x)
    (victim : (setInUse l (some x) s).victim = .none) :
    lookupMemo l x s = answerLane l (.lookup x .none) (setInUse l (some x) s) := by
  simp only [lookupMemo, findOrAllocate_of_no_victim (s := setInUse l (some x) s) none victim]

/-- Settles O19: the channel's memo is found, allocated from the victim, or not there. -/
theorem lookupHitsAllocatesOrFails : Obligations.LookupHitsAllocatesOrFails := by
  intro l x rest s waiting counted mail
  rw [exec_lookup waiting]
  refine ⟨fun m tag unique => ?_, fun none => ⟨fun m victim => ?_, fun victim => ?_⟩⟩
  · rw [lookupMemo_of_tag (s := popStore l s) tag unique, popStore_of_waiting waiting]
    rfl
  · rw [lookupMemo_of_victim (s := popStore l s) none victim, popStore_of_waiting waiting]
    rfl
  · rw [lookupMemo_of_no_victim (s := popStore l s) none victim, popStore_of_waiting waiting]
    rfl

/-! ## The memo a request names (R96, R103, R107) -/

theorem namedMemo_of_range (h : 95 < byteAt body 0) : s.namedMemo body = .inl .range := by
  have none : finOf 96 (byteAt body 0) = none := dif_neg (by omega)
  simp only [State.namedMemo, none]

theorem planIndex_of_byteAt (h : byteAt body 0 = x.val) : finOf 96 (byteAt body 0) = some x := by
  rw [h]
  exact dif_pos x.isLt

theorem namedMemo_of_absent (h : byteAt body 0 = x.val) (none : ∀ k, (s.memo k).tag ≠ some x) :
    s.namedMemo body = .inl .absent := by
  simp only [State.namedMemo, planIndex_of_byteAt h, memoOf_eq_none.mpr none]

theorem namedMemo_of_tag (h : byteAt body 0 = x.val) (tag : (s.memo m).tag = some x)
    (unique : ∀ k, (s.memo k).tag = some x → k = m) : s.namedMemo body = .inr (x, m) := by
  simp only [State.namedMemo, planIndex_of_byteAt h, memoOf_eq_some tag unique]

/-- The end of a request that replaces the store's record and is answered: the answer is the port's, nothing else is
touched (R170, R175). -/
theorem settle_respond_setStore (settled : s.Settled) (attached : (s.port p).link = .attached) (status : Status)
    (fields : List Byte) (store : MemoStore) :
    settle (respond p status fields (s.setStore store)) = { s with store, ports := s.answered p status fields } :=
  settle_respond (s.setStore store) settled p attached status fields

/-! ## An operation on every memo (R104 to R106) -/

/-- The state with every memo given. -/
def State.withMemos (s : State) (g : MemoId → Memo) : State := s.setStore { s.store with memos := Vector.ofFn g }

theorem get_ofFn_memo (g : MemoId → Memo) (m : MemoId) : (Vector.ofFn g).get m = g m := by simp [Tab.get_eq]

theorem withMemos_self (s : State) : s.withMemos s.memo = s :=
  congrArg (fun memos => s.setStore { s.store with memos }) (Tab.ext fun m => get_ofFn_memo s.memo m)

/-- A change of each memo of a list in turn, said of all memos at once. -/
theorem forEach_modMemo (f : Memo → Memo) {items : List MemoId} (nodup : items.Nodup) (s : State) :
    forEach items (fun m t => t.modMemo m f) s =
      s.withMemos (fun n => if n ∈ items then f (s.memo n) else s.memo n) := by
  induction items generalizing s with
  | nil => exact (withMemos_self s).symm
  | cons m rest ih =>
    obtain ⟨fresh, nodup_rest⟩ := List.nodup_cons.mp nodup
    rw [forEach_cons, ih nodup_rest]
    refine congrArg s.withMemos (funext fun n => ?_)
    rw [State.modMemo, State.setMemo_memo]
    by_cases same : m = n
    · subst same; simp [fresh]
    · simp [same, Ne.symm same]

theorem clearPins_eq (s : State) : clearPins s = s.withMemos (fun m => { s.memo m with pinned := false }) := by
  have all := forEach_modMemo (fun x => { x with pinned := false }) (items := allMemos) (by decide) s
  simp only [mem_allMemos, if_true] at all
  exact all

theorem flushMemos_eq (keep : MemoId → Bool) (s : State) : flushMemos keep s =
    { s with store := { s.store with
        memos := Vector.ofFn (fun m => if keep m = true then s.memo m else Memo.empty), order := defaultOrder } } := by
  have emptied := forEach_modMemo (fun _ => Memo.empty) (items := allMemos.filter (fun m => !keep m))
    (List.Nodup.filter _ (by decide)) s
  have kept : (fun n => if n ∈ allMemos.filter (fun m => !keep m) then Memo.empty else s.memo n) =
      fun m => if keep m = true then s.memo m else Memo.empty := by
    funext n
    cases h : keep n <;> simp [mem_allMemos, h]
  rw [kept] at emptied
  exact congrArg (fun t => State.setStore t { t.store with order := defaultOrder }) emptied

/-! ## MEMO_UNPIN and MEMO_RELEASE_ALL (R103, R104) -/

theorem exec_memoUnpin (asked : s.headBody p .memoUnpin = some body) :
    exec (.memoUnpin p) s = .next (settle (memoUnpin p body s)) := by
  simp only [exec, execMemoUnpin, asked]

theorem exec_memoReleaseAll (asked : s.headBody p .memoReleaseAll = some body) :
    exec (.memoReleaseAll p) s = .next (settle (memoReleaseAll p s)) := by
  simp only [exec, execMemoReleaseAll, asked]

theorem memoUnpin_of_refused {status : Status} (named : s.namedMemo body = .inl status) :
    memoUnpin p body s = respond p status [] s := by
  simp only [memoUnpin, named]

theorem memoUnpin_of_named (named : s.namedMemo body = .inr (x, m)) :
    memoUnpin p body s = respond p .ok [BitVec.ofNat 8 m.val] (s.setStore { s.store with
      memos := Tab.put s.store.memos m { s.memo m with pinned := false }, order := mostRecent m s.store.order }) := by
  simp only [memoUnpin, named]
  rfl

/-- Settles O22: an unpin acts on the memo the request names, a release of all on every memo. -/
theorem memoUnpinAndReleaseAllClearPins : Obligations.MemoUnpinAndReleaseAllClearPins := by
  refine fun p body s => ⟨fun ⟨settled, attached, asked⟩ => ?_, fun ⟨settled, attached, asked⟩ => ?_⟩
  · rw [exec_memoUnpin asked]
    refine ⟨fun range => ?_, fun x index => ⟨fun none => ?_, fun m tag unique => ?_⟩⟩
    · rw [memoUnpin_of_refused (namedMemo_of_range range), settle_respond s settled p attached]
    · rw [memoUnpin_of_refused (namedMemo_of_absent index none), settle_respond s settled p attached]
    · rw [memoUnpin_of_named (namedMemo_of_tag index tag unique), settle_respond_setStore settled attached]
  · rw [exec_memoReleaseAll asked]
    refine ⟨_, ?_, get_ofFn_memo fun m => { s.memo m with pinned := false }⟩
    unfold memoReleaseAll
    rw [clearPins_eq]
    exact congrArg Host.Outcome.next (settle_respond_setStore settled attached ..)

/-! ## MEMO_FLUSH and MEMO_FLUSH_UNPINNED (R105, R106) -/

theorem exec_memoFlush (asked : s.headBody p .memoFlush = some body) :
    exec (.memoFlush p) s = .next (settle (memoFlush p s)) := by
  simp only [exec, execMemoFlush, asked]

theorem exec_memoFlushUnpinned (asked : s.headBody p .memoFlushUnpinned = some body) :
    exec (.memoFlushUnpinned p) s = .next (settle (memoFlushUnpinned p s)) := by
  simp only [exec, execMemoFlushUnpinned, asked]

theorem taggedMemos_filter (c : MemoId → Bool) :
    s.taggedMemos.filter c = allMemos.filter (fun m => (s.memo m).tag.isSome && c m) := by
  unfold State.taggedMemos
  rw [List.filter_filter]
  exact List.filter_congr fun m _ => Bool.and_comm ..

/-- A held memo carries a tag (R92). -/
theorem tag_isSome_of_memoHeld (held : s.memoHeld m = true) : (s.memo m).tag.isSome = true := by
  obtain ⟨l, x, tag, used⟩ := memoHeld_iff.mp held
  rw [tag, Option.isSome_some]

theorem taggedMemos_filter_memoHeld : s.taggedMemos.filter s.memoHeld = allMemos.filter s.memoHeld := by
  rw [taggedMemos_filter]
  refine List.filter_congr fun m _ => ?_
  cases held : s.memoHeld m with
  | false => exact Bool.and_false _
  | true => rw [tag_isSome_of_memoHeld held, Bool.and_true]

/-- A flush keeps the held memos with their pins clear and empties the others (R105). -/
theorem clearPins_flushMemos (keep : MemoId → Bool) (s : State) : clearPins (flushMemos keep s) =
    s.setStore { s.store with
      memos := Vector.ofFn (fun m => if keep m = true then { s.memo m with pinned := false } else Memo.empty)
      order := defaultOrder } := by
  rw [flushMemos_eq, clearPins_eq]
  refine congrArg (fun g => s.setStore { s.store with memos := Vector.ofFn g, order := defaultOrder })
    (funext fun m => ?_)
  rw [State.memo, get_ofFn_memo]
  split <;> rfl

theorem memoFlush_eq (p : Port) (s : State) : memoFlush p s =
    respond p .ok [
        BitVec.ofNat 8 (allMemos.filter (fun m => (s.memo m).tag.isSome && !s.memoHeld m)).length,
        BitVec.ofNat 8 (allMemos.filter (fun m => s.memoHeld m)).length]
      (s.setStore { s.store with
        memos := Vector.ofFn (fun m => if s.memoHeld m = true then { s.memo m with pinned := false } else Memo.empty)
        order := defaultOrder }) := by
  unfold memoFlush
  rw [clearPins_flushMemos, taggedMemos_filter, taggedMemos_filter_memoHeld]
  rfl

theorem memoFlushUnpinned_eq (p : Port) (s : State) : memoFlushUnpinned p s =
    respond p .ok [
        BitVec.ofNat 8 (allMemos.filter (fun m =>
          (s.memo m).tag.isSome && !(s.memo m).pinned && !s.memoHeld m)).length,
        BitVec.ofNat 8 (allMemos.filter (fun m =>
          (s.memo m).tag.isSome && ((s.memo m).pinned || s.memoHeld m))).length]
      (s.setStore { s.store with
        memos := Vector.ofFn (fun m =>
          if ((s.memo m).pinned || s.memoHeld m) = true then s.memo m else Memo.empty)
        order := defaultOrder }) := by
  unfold memoFlushUnpinned
  simp only [taggedMemos_filter, flushMemos_eq, Bool.not_or, Bool.and_assoc]
  rfl

/-- Settles O23: each flush replaces the table of memos by one that its keep test says, and counts over the old one. -/
theorem memoFlushesEmptyTheStore : Obligations.MemoFlushesEmptyTheStore := by
  refine fun p body s => ⟨fun ⟨settled, attached, asked⟩ => ?_, fun ⟨settled, attached, asked⟩ => ?_⟩
  · rw [exec_memoFlush asked, memoFlush_eq, settle_respond_setStore settled attached]
    exact ⟨_, rfl, get_ofFn_memo fun m =>
      if s.memoHeld m = true then { s.memo m with pinned := false } else Memo.empty⟩
  · rw [exec_memoFlushUnpinned asked, memoFlushUnpinned_eq, settle_respond_setStore settled attached]
    refine ⟨_, rfl, fun m => (get_ofFn_memo _ m).trans ?_⟩
    exact if_congr (Bool.or_eq_true_iff ..) rfl rfl

end Sys2Proof.Machine
end

section
/-! MEMO_SEED (R107, R108): what its body spells, and what an accepted seed writes and answers. -/

namespace Sys2Proof.Machine

variable {s : State} {p : Port} {l : LaneId} {m : MemoId} {x : PlanIndex} {b : SeedBody} {body : List Byte}

/-! ## Fields of a body that may be not given (R197) -/

theorem byte_eq_allOnes (b : Byte) : b = 0xFF ↔ b.toNat = 255 := by bv_omega

theorem given_word16 (b1 b0 : Byte) : given 0xFFFF (b1.toNat * 256 + b0.toNat) = givenIn [b1, b0] := by
  have spells : numberOf [b1, b0] = b1.toNat * 256 + b0.toNat := by simp [numberOf]
  have allOnes : [b1, b0].all (fun b => b = 0xFF) = true ↔ b1.toNat * 256 + b0.toNat = 0xFFFF := by
    simp only [List.all_cons, List.all_nil, Bool.and_true, Bool.and_eq_true, decide_eq_true_eq, byte_eq_allOnes]
    omega
  unfold given givenIn
  rw [spells]
  exact if_congr allOnes.symm rfl rfl

theorem given_word32 (b3 b2 b1 b0 : Byte) :
    given 0xFFFFFFFF ((b3.toNat * 256 + b2.toNat) * 65536 + (b1.toNat * 256 + b0.toNat)) =
      givenIn [b3, b2, b1, b0] := by
  have spells : numberOf [b3, b2, b1, b0] =
      (b3.toNat * 256 + b2.toNat) * 65536 + (b1.toNat * 256 + b0.toNat) := by
    simp only [numberOf, List.foldl_cons, List.foldl_nil]
    omega
  have allOnes : [b3, b2, b1, b0].all (fun b => b = 0xFF) = true ↔
      (b3.toNat * 256 + b2.toNat) * 65536 + (b1.toNat * 256 + b0.toNat) = 0xFFFFFFFF := by
    simp only [List.all_cons, List.all_nil, Bool.and_true, Bool.and_eq_true, decide_eq_true_eq, byte_eq_allOnes]
    omega
  unfold given givenIn
  rw [spells]
  exact if_congr allOnes.symm rfl rfl

theorem offsetField_eq (n : Nat) :
    offsetField n = (given 0xFFFF n).map (fun n => clampOffset ((n : Int) - 32768)) := by
  unfold offsetField given
  split <;> rfl

/-- A cell is refused exactly where a given one is above 65,535 (R107). -/
theorem cellField_eq_none (n : Nat) :
    cellField n = none ↔ ∃ cell, given 0xFFFFFFFF n = some cell ∧ 65535 < cell := by
  unfold cellField given
  split
  · simp
  · split <;> simp <;> omega

theorem cellField_eq_some {n : Nat} {cell : Option (BitVec 16)} (h : cellField n = some cell) :
    cell = (given 0xFFFFFFFF n).map (fun n => BitVec.ofNat 16 n) := by
  unfold cellField at h
  unfold given
  split at h
  · next allOnes => cases h; rw [if_pos allOnes]; rfl
  · next other =>
    split at h
    · cases h; rw [if_neg other]; rfl
    · exact nomatch h

/-! ## Codes (R107, R198) -/

section
variable {α : Type} {ofCode : Nat → Option α} {values : List α} {n : Nat}

/-- A code is refused exactly where a given one lies beyond the values of its field. -/
theorem enumField_eq_none (table : ∀ n, ofCode n = values[n]?) :
    enumField ofCode n = none ↔ values.length ≤ n ∧ n ≠ 0xFF := by
  unfold enumField
  rw [table]
  split
  · next allOnes => simp [allOnes]
  · next other => simp [other]

theorem enumField_eq_some (table : ∀ n, ofCode n = values[n]?) (few : values.length ≤ 0xFF) {v : Option α}
    (h : enumField ofCode n = some v) : v = values[n]? := by
  unfold enumField at h
  rw [table] at h
  split at h
  · next allOnes => cases h; rw [allOnes, List.getElem?_eq_none few]
  · obtain ⟨value, found, rfl⟩ := Option.map_eq_some_iff.mp h
    exact found.symm

end

theorem carrierMode_ofCode : ∀ n, CarrierMode.ofCode n = [CarrierMode.s, .m, .l][n]?
  | 0 | 1 | 2 | _ + 3 => rfl

theorem guard_ofCode : ∀ n, Guard.ofCode n = [Guard.g4, .g8, .g16, .g32][n]?
  | 0 | 1 | 2 | 3 | _ + 4 => rfl

theorem constellation_ofCode : ∀ n, Constellation.ofCode n = [Constellation.p4, .p16, .p64][n]?
  | 0 | 1 | 2 | _ + 3 => rfl

theorem codeRate_ofCode : ∀ n, CodeRate.ofCode n = [CodeRate.r12, .r23, .r34, .r56, .r78][n]?
  | 0 | 1 | 2 | 3 | 4 | _ + 5 => rfl

/-! ## The body (R107, R108, R200) -/

theorem SeedBody.read_eq_none_iff : SeedBody.read body = none ↔
    enumField CarrierMode.ofCode (byteAt body 3) = none ∨ enumField Guard.ofCode (byteAt body 4) = none ∨
      enumField Constellation.ofCode (byteAt body 5) = none ∨ enumField CodeRate.ofCode (byteAt body 6) = none ∨
      cellField (word32At body 7) = none := by
  unfold SeedBody.read
  split
  · next mode guard constellation codeRate cell => simp [mode, guard, constellation, codeRate, cell]
  · next refused =>
    refine iff_of_true rfl ?_
    by_contra fits
    simp only [not_or, ← Option.isSome_iff_ne_none, Option.isSome_iff_exists] at fits
    obtain ⟨⟨_, mode⟩, ⟨_, guard⟩, ⟨_, constellation⟩, ⟨_, codeRate⟩, ⟨_, cell⟩⟩ := fits
    exact refused _ _ _ _ _ mode guard constellation codeRate cell

theorem SeedBody.fields_of_read (h : SeedBody.read body = some b) :
    b.offset = offsetField (word16At body 1) ∧ enumField CarrierMode.ofCode (byteAt body 3) = some b.mode ∧
      enumField Guard.ofCode (byteAt body 4) = some b.guard ∧
      enumField Constellation.ofCode (byteAt body 5) = some b.constellation ∧
      enumField CodeRate.ofCode (byteAt body 6) = some b.codeRate ∧ cellField (word32At body 7) = some b.cell := by
  unfold SeedBody.read at h
  split at h
  · next mode guard constellation codeRate cell =>
    cases h
    exact ⟨rfl, mode, guard, constellation, codeRate, cell⟩
  · exact nomatch h

/-! ## What an accepted seed writes (R93, R108) -/

theorem seeded_eq_or {α : Type} (given stored : Option α) : seeded given stored = given.or stored := by
  cases given <;> rfl

/-- The fields of a memo of a channel after a seed: the rate is recomputed where the seed gives one of the three fields
it rests on (R93). -/
def SeedBody.written (b : SeedBody) (bandwidth : Option Bandwidth) (f : Params) : Params :=
  { b.over f with streamRate := if b.givesRate = true then rateFrom bandwidth (b.over f) else f.streamRate }

theorem writeSeed_eq (tag : (s.memo m).tag = some x) : writeSeed b m s =
    s.setMemo m { s.memo m with fields := b.written (s.bandwidth x) (s.memo m).fields } := by
  unfold writeSeed SeedBody.written
  split
  · rw [writeMemo_eq, tag]; rfl
  · rfl

/-! ## The answer and the command (R107, R108) -/

theorem encMemo_of_unheld (unheld : s.memoHeld m = false) : encMemo m s = BitVec.ofNat 8 m.val ::
    ((if (s.memo m).pinned = true then 1 else 0) ::
      (BitVec.ofNat 8 (s.store.order.idxOf m) :: encParams (s.memo m).fields)) := by
  unfold encMemo
  rw [unheld]
  cases (s.memo m).pinned <;> rfl

theorem exec_memoSeed (asked : s.headBody p .memoSeed = some body) :
    exec (.memoSeed p) s = .next (settle (memoSeed p body s)) := by
  simp only [exec, execMemoSeed, asked]

theorem memoSeed_of_unread (unread : SeedBody.read body = none) : memoSeed p body s = respond p .range [] s := by
  simp only [memoSeed, unread]

theorem memoSeed_of_refused {status : Status} (read : SeedBody.read body = some b)
    (named : s.namedMemo body = .inl status) : memoSeed p body s = respond p status [] s := by
  simp only [memoSeed, read, named]

theorem memoSeed_of_inUse (read : SeedBody.read body = some b) (named : s.namedMemo body = .inr (x, m))
    (used : s.inUseLane x = some l) : memoSeed p body s = respond p .inUse [BitVec.ofNat 8 l.val] s := by
  simp only [memoSeed, read, named, used]
  rfl

theorem inUseLane_eq_none (unused : ∀ l, s.store.inUse.get l ≠ some x) : s.inUseLane x = none := by
  rw [← Option.not_isSome_iff_eq_none, inUseLane_isSome]
  exact fun ⟨l, used⟩ => unused l used

theorem memoSeed_of_unused (read : SeedBody.read body = some b) (named : s.namedMemo body = .inr (x, m))
    (tag : (s.memo m).tag = some x) (unused : ∀ l, s.store.inUse.get l ≠ some x) :
    memoSeed p body s =
      respond p .ok (BitVec.ofNat 8 m.val :: ((if (s.memo m).pinned = true then 1 else 0) ::
          (BitVec.ofNat 8 (s.store.order.idxOf m) :: encParams (b.written (s.bandwidth x) (s.memo m).fields))))
        (s.setStore { s.store with
          memos := Tab.put s.store.memos m
            { s.memo m with fields := b.written (s.bandwidth x) (s.memo m).fields } }) := by
  simp only [memoSeed, read, named, inUseLane_eq_none unused]
  rw [writeSeed_eq tag]
  generalize b.written (s.bandwidth x) (s.memo m).fields = fields
  have memo : (s.setMemo m { s.memo m with fields }).memo m = { s.memo m with fields } :=
    (State.setMemo_memo s m m _).trans (if_pos rfl)
  have tagged : ((s.setMemo m { s.memo m with fields }).memo m).tag = some x := by rw [memo, tag]
  rw [encMemo_of_unheld (memoHeld_of_unused tagged unused), memo]
  rfl

/-- The eleven bytes of a body, field by field. -/
theorem seedBody_spells (index o1 o0 mode guard constellation codeRate c3 c2 c1 c0 : Byte) :
    let body := [index, o1, o0, mode, guard, constellation, codeRate, c3, c2, c1, c0]
    (SeedBody.read body = none ↔
      (2 < mode.toNat ∧ mode ≠ 0xFF) ∨ (3 < guard.toNat ∧ guard ≠ 0xFF) ∨
        (2 < constellation.toNat ∧ constellation ≠ 0xFF) ∨ (4 < codeRate.toNat ∧ codeRate ≠ 0xFF) ∨
        ∃ cell, givenIn [c3, c2, c1, c0] = some cell ∧ 65535 < cell) ∧
    ∀ b, SeedBody.read body = some b →
      b.offset = (givenIn [o1, o0]).map (fun n => clampOffset ((n : Int) - 32768)) ∧
      b.mode = [CarrierMode.s, .m, .l][mode.toNat]? ∧ b.guard = [Guard.g4, .g8, .g16, .g32][guard.toNat]? ∧
      b.constellation = [Constellation.p4, .p16, .p64][constellation.toNat]? ∧
      b.codeRate = [CodeRate.r12, .r23, .r34, .r56, .r78][codeRate.toNat]? ∧
      b.cell = (givenIn [c3, c2, c1, c0]).map (fun n => BitVec.ofNat 16 n) := by
  intro body
  refine ⟨?_, fun b read => ?_⟩
  · rw [SeedBody.read_eq_none_iff, enumField_eq_none carrierMode_ofCode, enumField_eq_none guard_ofCode,
      enumField_eq_none constellation_ofCode, enumField_eq_none codeRate_ofCode, cellField_eq_none]
    simp only [byte_eq_allOnes, ne_eq]
    rw [← given_word32]
    rfl
  · obtain ⟨offset, mode, guard, constellation, codeRate, cell⟩ := SeedBody.fields_of_read read
    refine ⟨?_, enumField_eq_some carrierMode_ofCode (by decide) mode,
      enumField_eq_some guard_ofCode (by decide) guard,
      enumField_eq_some constellation_ofCode (by decide) constellation,
      enumField_eq_some codeRate_ofCode (by decide) codeRate, ?_⟩
    · rw [offset, offsetField_eq, ← given_word16]; rfl
    · rw [cellField_eq_some cell, ← given_word32]; rfl

/-- Settles O24: the body field by field, then the checks in the order of R107, and the write of R108. -/
theorem memoSeedWritesTheGivenFields : Obligations.MemoSeedWritesTheGivenFields := by
  refine ⟨seedBody_spells, fun p body s ⟨settled, attached, asked⟩ => ?_⟩
  rw [exec_memoSeed asked]
  refine ⟨fun refused => ?_, fun x b index read => ⟨fun none => ?_, fun m tag unique =>
    ⟨fun l used => ?_, fun unused => ?_⟩⟩⟩
  · have range : memoSeed p body s = respond p .range [] s := by
      cases read : SeedBody.read body with
      | none => exact memoSeed_of_unread read
      | some b =>
        have above : 95 < byteAt body 0 := refused.resolve_right fun unread => nomatch read.symm.trans unread
        exact memoSeed_of_refused read (namedMemo_of_range above)
    rw [range, settle_respond s settled p attached]
  · rw [memoSeed_of_refused read (namedMemo_of_absent index none), settle_respond s settled p attached]
  · rw [memoSeed_of_inUse read (namedMemo_of_tag index tag unique) used, settle_respond s settled p attached]
  · rw [memoSeed_of_unused read (namedMemo_of_tag index tag unique) tag unused,
      settle_respond_setStore settled attached]
    simp only [seeded_eq_or]
    rfl

end Sys2Proof.Machine
end

section
/-! Which commands leave the packet pool alone: one lemma for each operation that does, and the commands made of them. -/

namespace Sys2Proof.Machine

variable {s t : State}

/-! ## Operations that leave the pool alone -/

@[simp] theorem modLane_pool (l : LaneId) (f : Lane → Lane) (s : State) : (s.modLane l f).pool = s.pool := rfl
@[simp] theorem modPort_pool (p : Port) (f : PortRec → PortRec) (s : State) : (s.modPort p f).pool = s.pool := rfl
@[simp] theorem modMemo_pool (m : MemoId) (f : Memo → Memo) (s : State) : (s.modMemo m f).pool = s.pool := rfl
@[simp] theorem modAdmLane_pool (l : LaneId) (f : AdmLane → AdmLane) (s : State) : (s.modAdmLane l f).pool = s.pool := rfl
@[simp] theorem modAdmPort_pool (p : Port) (f : AdmPort → AdmPort) (s : State) : (s.modAdmPort p f).pool = s.pool := rfl
@[simp] theorem modFe_pool (f : FrontEnd → FrontEnd) (s : State) : (s.modFe f).pool = s.pool := rfl

@[simp] theorem reportLane_pool (k : ErrorKind) (l : LaneId) (s : State) : (reportLane k l s).pool = s.pool := rfl
@[simp] theorem reportPort_pool (k : ErrorKind) (p : Port) (s : State) : (reportPort k p s).pool = s.pool := rfl
@[simp] theorem reportDevice_pool (k : ErrorKind) (s : State) : (reportDevice k s).pool = s.pool := rfl
@[simp] theorem popStore_pool (l : LaneId) (s : State) : (popStore l s).pool = s.pool := rfl
@[simp] theorem popAnswer_pool (l : LaneId) (s : State) : (popAnswer l s).pool = s.pool := rfl
@[simp] theorem popPacket_pool (l : LaneId) (s : State) : (popPacket l s).pool = s.pool := rfl
@[simp] theorem handToPool_pool (l : LaneId) (m : PacketMsg) (s : State) : (handToPool l m s).pool = s.pool := rfl

@[simp] theorem respond_pool (p : Port) (status : Status) (fields : List Byte) (s : State) :
    (respond p status fields s).pool = s.pool := (touches_respond s p status fields).same .pool (by decide)
@[simp] theorem examineHead_pool (p : Port) (s : State) : (examineHead p s).pool = s.pool :=
  (touches_examineHead s p).same .pool (by decide)
@[simp] theorem takeOccurrence_pool (o : Occurrence) (s : State) : (takeOccurrence o s).pool = s.pool :=
  (touches_takeOccurrence s o).same .pool (by decide)
@[simp] theorem raiseNotice_pool (n : Notice) (p : Port) (s : State) : (raiseNotice n p s).pool = s.pool :=
  (touches_raiseNotice s n p).same .pool (by decide)
@[simp] theorem raiseNoticeAll_pool (n : Notice) (s : State) : (raiseNoticeAll n s).pool = s.pool :=
  (touches_raiseNoticeAll s n).same .pool (by decide)
@[simp] theorem raiseRemoved_pool (p : Port) (i : SubId) (s : State) : (raiseRemoved p i s).pool = s.pool :=
  raiseNotice_pool _ p s

/-! ### The memo store (chapter 5) -/

@[simp] theorem makeRecent_pool (m : MemoId) (s : State) : (makeRecent m s).pool = s.pool := rfl
@[simp] theorem setInUse_pool (l : LaneId) (x : Option PlanIndex) (s : State) : (setInUse l x s).pool = s.pool := rfl
@[simp] theorem writeMemo_pool (f : Params → Params) (m : MemoId) (s : State) : (writeMemo f m s).pool = s.pool := rfl
@[simp] theorem setPin_pool (pinned : Bool) (m : MemoId) (s : State) : (setPin pinned m s).pool = s.pool := rfl
@[simp] theorem clearPins_pool (s : State) : (clearPins s).pool = s.pool := (touches_clearPins s).same .pool (by decide)
@[simp] theorem flushMemos_pool (keep : MemoId → Bool) (s : State) : (flushMemos keep s).pool = s.pool :=
  (touches_flushMemos s keep).same .pool (by decide)
@[simp] theorem discardMemo_pool (x : PlanIndex) (s : State) : (discardMemo x s).pool = s.pool :=
  (touches_discardMemo s x).same .pool (by decide)

theorem findOrAllocate_pool {x : PlanIndex} {m : MemoId} {made : Bool} (h : findOrAllocate x s = some (m, made, t)) :
    t.pool = s.pool :=
  (touches_findOrAllocate s x h).same .pool (by decide)

@[simp] theorem writeSeed_pool (b : SeedBody) (m : MemoId) (s : State) : (writeSeed b m s).pool = s.pool := by
  unfold writeSeed
  split <;> simp

/-! ### The lanes (chapter 4) -/

@[simp] theorem writeFields_pool (f : Params → Params) (l : LaneId) (s : State) : (writeFields f l s).pool = s.pool :=
  (touches_writeFields s f l).same .pool (by decide)
@[simp] theorem writeCell_pool (cell : BitVec 16) (l : LaneId) (s : State) : (writeCell cell l s).pool = s.pool :=
  (touches_writeCell s cell l).same .pool (by decide)
@[simp] theorem enterStage_pool (st : Stage) (ms : Nat) (l : LaneId) (s : State) : (enterStage st ms l s).pool = s.pool :=
  rfl
@[simp] theorem leaveWait_pool (l : LaneId) (s : State) : (leaveWait l s).pool = s.pool :=
  (touches_leaveWait s l).same .pool (by decide)
@[simp] theorem allLeaveWait_pool (s : State) : (allLeaveWait s).pool = s.pool :=
  (touches_allLeaveWait s).same .pool (by decide)
@[simp] theorem reportState_pool (l : LaneId) (s : State) : (reportState l s).pool = s.pool := rfl
@[simp] theorem reportRate_pool (l : LaneId) (s : State) : (reportRate l s).pool = s.pool := rfl
@[simp] theorem restartLane_pool (l : LaneId) (s : State) : (restartLane l s).pool = s.pool :=
  (touches_restartLane s l).same .pool (by decide)
@[simp] theorem enterHoldoff_pool (reason : HoldoffReason) (l : LaneId) (s : State) :
    (enterHoldoff reason l s).pool = s.pool := rfl
@[simp] theorem countAttempt_pool (l : LaneId) (s : State) : (countAttempt l s).pool = s.pool :=
  (touches_countAttempt s l).same .pool (by decide)
@[simp] theorem enterLocked_pool (l : LaneId) (s : State) : (enterLocked l s).pool = s.pool := rfl
@[simp] theorem setUnsettled_pool (l : LaneId) (s : State) : (setUnsettled l s).pool = s.pool := rfl
@[simp] theorem releaseLane_pool (l : LaneId) (s : State) : (releaseLane l s).pool = s.pool :=
  (touches_releaseLane s l).same .pool (by decide)

@[simp] theorem clearFields_pool (f : Params → Params) (l : LaneId) (s : State) : (clearFields f l s).pool = s.pool := by
  unfold clearFields
  simp only
  split <;> simp
@[simp] theorem mismatch_pool (l : LaneId) (s : State) : (mismatch l s).pool = s.pool := clearFields_pool _ l s
@[simp] theorem carrierFound_pool (l : LaneId) (offset : Int) (mode : CarrierMode) (guard : Guard) (s : State) :
    (carrierFound l offset mode guard s).pool = s.pool := by
  unfold carrierFound
  simp only
  split <;> simp
@[simp] theorem frameDecoded_pool (l : LaneId) (c : Constellation) (r : CodeRate) (cell : BitVec 16) (s : State) :
    (frameDecoded l c r cell s).pool = s.pool := by simp [frameDecoded]
@[simp] theorem streamSync_pool (l : LaneId) (s : State) : (streamSync l s).pool = s.pool := by
  unfold streamSync
  simp only
  split <;> simp
@[simp] theorem changeSignalling_pool (l : LaneId) (mode : CarrierMode) (guard : Guard) (c : Constellation) (r : CodeRate)
    (s : State) : (changeSignalling l mode guard c r s).pool = s.pool := by simp [changeSignalling]
@[simp] theorem recheckCell_pool (l : LaneId) (cell : BitVec 16) (s : State) : (recheckCell l cell s).pool = s.pool := by
  rw [recheckCell_eq]
  split <;> simp
@[simp] theorem completeWindow_pool (l : LaneId) (bad : Nat) (s : State) : (completeWindow l bad s).pool = s.pool := by
  unfold completeWindow
  simp only
  split
  · split <;> simp
  · rfl
@[simp] theorem takeLookupAnswer_pool (l : LaneId) (answer : Option (MemoId × Params)) (s : State) :
    (takeLookupAnswer l answer s).pool = s.pool := by
  unfold takeLookupAnswer
  simp only [leaveWait_pool, reportRate_pool]
  split <;> simp
@[simp] theorem takeRestartAnswer_pool (l : LaneId) (answer : Option MemoId) (s : State) :
    (takeRestartAnswer l answer s).pool = s.pool := by simp [takeRestartAnswer]
@[simp] theorem discardAnswer_pool (l : LaneId) (s : State) : (discardAnswer l s).pool = s.pool := rfl

/-! ### The front end (chapter 3) -/

@[simp] theorem steer_pool (s : State) : (steer s).pool = s.pool := (touches_steer s).same .pool (by decide)
@[simp] theorem retarget_pool (before : Target) (s : State) : (retarget before s).pool = s.pool :=
  (touches_retarget s before).same .pool (by decide)
@[simp] theorem moveWindow_pool (position : Nat) (s : State) : (moveWindow position s).pool = s.pool :=
  (touches_moveWindow s position).same .pool (by decide)
@[simp] theorem setFeed_pool (on : Bool) (s : State) : (setFeed on s).pool = s.pool :=
  (touches_setFeed s on).same .pool (by decide)
@[simp] theorem retuneCompletion_pool (s : State) : (retuneCompletion s).pool = s.pool := by simp [retuneCompletion]
@[simp] theorem overcurrent_pool (s : State) : (overcurrent s).pool = s.pool := by
  have held : ∀ t : State, (forEach allLanes feedHoldoff t).pool = t.pool := fun t =>
    (Touches.forEach (fun l v => touches_feedHoldoff v l) allLanes t).same .pool (by decide)
  simp [overcurrent, raiseFeedNotice, held]
@[simp] theorem restoreFeed_pool (s : State) : (restoreFeed s).pool = s.pool := by
  have released : ∀ t : State, (releaseFeedHoldoffs t).pool = t.pool := fun t =>
    (touches_releaseFeedHoldoffs t).same .pool (by decide)
  simp [restoreFeed, raiseFeedNotice, released]

/-! ### The admission controller (chapter 6) -/

@[simp] theorem markServed_pool (p : Port) (s : State) : (markServed p s).pool = s.pool := rfl
@[simp] theorem rederivePort_pool (always : Bool) (p : Port) (s : State) : (rederivePort always p s).pool = s.pool :=
  (touches_rederivePort s always p).same .pool (by decide)
@[simp] theorem readmit_pool (p : Port) (s : State) : (readmit p s).pool = s.pool :=
  (touches_readmit s p).same .pool (by decide)
@[simp] theorem takeReport_pool (m : AdmMsg) (s : State) : (takeReport m s).pool = s.pool :=
  (touches_takeReport s m).same .pool (by decide)
@[simp] theorem takeReports_pool (s : State) : (takeReports s).pool = s.pool :=
  (touches_takeReports s).same .pool (by decide)
@[simp] theorem removeSub_pool (p : Port) (i : SubId) (u : Sub) (s : State) : (removeSub p i u s).pool = s.pool :=
  (touches_removeSub s p i u).same .pool (by decide)
@[simp] theorem removeAll_pool (p : Port) (s : State) : (removeAll p s).pool = s.pool :=
  (touches_removeAll s p).same .pool (by decide)
@[simp] theorem takeLane_pool (choice : LaneChoice) (x : PlanIndex) (rate : Option Nat) (s : State) :
    (takeLane choice x rate s).pool = s.pool := (touches_takeLane s choice x rate).same .pool (by decide)
@[simp] theorem setSub_pool (p : Port) (i : SubId) (u : Option Sub) (s : State) : (s.setSub p i u).pool = s.pool := rfl
@[simp] theorem countOverflow_pool (k : Port × SubId) (s : State) : (countOverflow k s).pool = s.pool :=
  (touches_countOverflow s k).same .pool (by decide)
@[simp] theorem createSub_pool (p : Port) (b : SubscribeBody) (i : SubId) (choice : LaneChoice) (move rate : Option Nat)
    (charge : Nat) (s : State) : (createSub p b i choice move rate charge s).pool = s.pool := by
  unfold createSub
  cases move <;> simp

/-! ### The ports (chapter 8) -/

@[simp] theorem arrive_pool (p : Port) (kind tag : Byte) (body : List Byte) (s : State) :
    (arrive p kind tag body s).pool = s.pool := by
  unfold arrive
  simp only
  split
  · simp
  · split <;> simp

@[simp] theorem readUplink_pool (p : Port) (fuel : Nat) (bytes : List Byte) (s : State) :
    (readUplink p fuel bytes s).pool = s.pool := by
  induction fuel generalizing bytes s with
  | zero => rfl
  | succ fuel ih =>
    unfold readUplink
    split
    · rfl
    · exact ih _ _
    · exact (ih _ _).trans (arrive_pool p _ _ _ s)

@[simp] theorem responseSent_pool (p : Port) (s : State) : (responseSent p s).pool = s.pool := by
  unfold responseSent
  simp only
  split
  · rfl
  · split <;> simp

@[simp] theorem forgetAsker_pool (p : Port) (s : State) : (forgetAsker p s).pool = s.pool := by
  unfold forgetAsker
  split
  · rfl
  · split <;> rfl

/-! ### What the blocks make of a request -/

@[simp] theorem planWrite_pool (p : Port) (body : List Byte) (s : State) : (planWrite p body s).pool = s.pool := by
  unfold planWrite
  split
  · simp
  · split
    · simp
    · split <;> simp
@[simp] theorem planDiscard_pool (d : DiscardAsk) (s : State) : (planDiscard d s).pool = s.pool := by
  unfold planDiscard
  simp only
  split <;> simp
@[simp] theorem planRead_pool (p : Port) (body : List Byte) (s : State) : (planRead p body s).pool = s.pool := by
  unfold planRead
  split <;> simp
@[simp] theorem feedSet_pool (p : Port) (body : List Byte) (s : State) : (feedSet p body s).pool = s.pool := by
  unfold feedSet
  split <;> simp
@[simp] theorem memoPin_pool (p : Port) (body : List Byte) (s : State) : (memoPin p body s).pool = s.pool := by
  unfold memoPin
  split
  · simp
  · split
    · simp
    · split
      · simp
      · next found => simp [findOrAllocate_pool found]
@[simp] theorem memoUnpin_pool (p : Port) (body : List Byte) (s : State) : (memoUnpin p body s).pool = s.pool := by
  unfold memoUnpin
  split <;> simp
@[simp] theorem memoReleaseAll_pool (p : Port) (s : State) : (memoReleaseAll p s).pool = s.pool := by
  simp [memoReleaseAll]
@[simp] theorem memoFlush_pool (p : Port) (s : State) : (memoFlush p s).pool = s.pool := by simp [memoFlush]
@[simp] theorem memoFlushUnpinned_pool (p : Port) (s : State) : (memoFlushUnpinned p s).pool = s.pool := by
  simp [memoFlushUnpinned]
@[simp] theorem memoSeed_pool (p : Port) (body : List Byte) (s : State) : (memoSeed p body s).pool = s.pool := by
  unfold memoSeed
  split
  · simp
  · split
    · simp
    · split <;> simp
@[simp] theorem memoRead_pool (p : Port) (body : List Byte) (s : State) : (memoRead p body s).pool = s.pool := by
  unfold memoRead
  split <;> simp
@[simp] theorem lookupMemo_pool (l : LaneId) (x : PlanIndex) (s : State) : (lookupMemo l x s).pool = s.pool := by
  unfold lookupMemo
  simp only
  split
  · simp
  · next found => simp [findOrAllocate_pool found]
@[simp] theorem restartMemo_pool (l : LaneId) (x : PlanIndex) (params : Params) (s : State) :
    (restartMemo l x params s).pool = s.pool := by
  unfold restartMemo
  split
  · simp
  · next found =>
    rw [answerLane_eq, State.setMail_pool]
    split <;> simp [findOrAllocate_pool found]
@[simp] theorem severitySet_pool (p : Port) (body : List Byte) (s : State) : (severitySet p body s).pool = s.pool := by
  unfold severitySet
  split
  · simp only
    split <;> simp
  · simp
@[simp] theorem logRead_pool (p : Port) (body : List Byte) (s : State) : (logRead p body s).pool = s.pool := by
  unfold logRead
  split <;> simp
@[simp] theorem logClear_pool (p : Port) (body : List Byte) (s : State) : (logClear p body s).pool = s.pool := by
  unfold logClear
  split <;> simp
@[simp] theorem statusSubscription_pool (p : Port) (body : List Byte) (s : State) :
    (statusSubscription p body s).pool = s.pool := by
  unfold statusSubscription
  split
  · split <;> simp
  · simp
@[simp] theorem statusLane_pool (p : Port) (body : List Byte) (s : State) : (statusLane p body s).pool = s.pool := by
  unfold statusLane
  split <;> simp
@[simp] theorem statusPort_pool (p : Port) (body : List Byte) (s : State) : (statusPort p body s).pool = s.pool := by
  unfold statusPort
  split <;> simp
@[simp] theorem subscribe_pool (p : Port) (body : List Byte) (s : State) : (subscribe p body s).pool = s.pool := by
  unfold subscribe
  split
  · simp
  · split <;> simp
@[simp] theorem unsubscribe_pool (p : Port) (body : List Byte) (s : State) : (unsubscribe p body s).pool = s.pool := by
  unfold unsubscribe
  split
  · simp
  · split
    · simp
    · unfold unsubscribeAt
      rw [retarget_pool]
      split <;> simp
@[simp] theorem filterSet_pool (p : Port) (body : List Byte) (s : State) : (filterSet p body s).pool = s.pool := by
  unfold filterSet
  split
  · split <;> simp
  · simp
@[simp] theorem windowSet_pool (p : Port) (body : List Byte) (s : State) : (windowSet p body s).pool = s.pool := by
  unfold windowSet
  simp only
  split
  · simp
  · split
    · simp
    · split <;> simp

/-! ## The commands -/

/-- The commands that change slots, output queues or quotas (chapter 7, R138, R139, R146, R148, R158, R166). -/
def changesPool : Instr → Bool
  | .coldReset | .warmReset | .installSet _ | .portSetup _ | .portReset _ | .linkDown _ | .holdExpiry _
  | .sendComplete _ | .packetEvent _ => true
  | _ => false

/-- A command leads to a state with the pool as it was. -/
def KeepsPool (s : State) (o : Host.Outcome State Fault Refusal) : Prop := Yields (fun t => t.pool = s.pool) o

@[simp] theorem keepsPool_next : KeepsPool s (.next t) ↔ t.pool = s.pool := Iff.rfl

theorem keepsPool_ite {c : Prop} [Decidable c] (acts : t.pool = s.pool) :
    KeepsPool s (if c then .next t else .next s) := by
  split
  · exact acts
  · rfl

/-- A command that takes a request, a message or an event, or else changes nothing (log entry 4). -/
theorem exec_pool {c : Instr} (h : changesPool c = false) : KeepsPool s (exec c s) := by
  cases c with
  | planDiscard =>
    simp only [exec, execPlanDiscard]
    split
    exacts [keepsPool_next.mpr rfl, by simp]
  | planWrite p =>
    simp only [exec, execPlanWrite]
    split
    · exact keepsPool_next.mpr rfl
    · split <;> simp
  | planRead p =>
    simp only [exec, execPlanRead]
    split
    exacts [keepsPool_next.mpr rfl, by simp]
  | planLock p =>
    simp only [exec, execPlanLock]
    split
    exacts [keepsPool_next.mpr rfl, by simp]
  | feedSet p =>
    simp only [exec, execFeedSet]
    split
    exacts [keepsPool_next.mpr rfl, by simp]
  | memoPin p =>
    simp only [exec, execMemoPin]
    split
    exacts [keepsPool_next.mpr rfl, by simp]
  | memoUnpin p =>
    simp only [exec, execMemoUnpin]
    split
    exacts [keepsPool_next.mpr rfl, by simp]
  | memoReleaseAll p =>
    simp only [exec, execMemoReleaseAll]
    split
    exacts [keepsPool_next.mpr rfl, by simp]
  | memoFlush p =>
    simp only [exec, execMemoFlush]
    split
    exacts [keepsPool_next.mpr rfl, by simp]
  | memoFlushUnpinned p =>
    simp only [exec, execMemoFlushUnpinned]
    split
    exacts [keepsPool_next.mpr rfl, by simp]
  | memoSeed p =>
    simp only [exec, execMemoSeed]
    split
    exacts [keepsPool_next.mpr rfl, by simp]
  | memoRead p =>
    simp only [exec, execMemoRead]
    split
    exacts [keepsPool_next.mpr rfl, by simp]
  | memoSnapshot p =>
    simp only [exec, execMemoSnapshot]
    split
    exacts [keepsPool_next.mpr rfl, by simp]
  | subscribe p =>
    simp only [exec, execSubscribe]
    split
    exacts [keepsPool_next.mpr rfl, by simp]
  | unsubscribe p =>
    simp only [exec, execUnsubscribe]
    split
    exacts [keepsPool_next.mpr rfl, by simp]
  | filterSet p =>
    simp only [exec, execFilterSet]
    split
    exacts [keepsPool_next.mpr rfl, by simp]
  | windowSet p =>
    simp only [exec, execWindowSet]
    split
    exacts [keepsPool_next.mpr rfl, by simp]
  | severitySet p =>
    simp only [exec, execSeveritySet]
    split
    exacts [keepsPool_next.mpr rfl, by simp]
  | logRead p =>
    simp only [exec, execLogRead]
    split
    exacts [keepsPool_next.mpr rfl, by simp]
  | logClear p =>
    simp only [exec, execLogClear]
    split
    exacts [keepsPool_next.mpr rfl, by simp]
  | statusSubscription p =>
    simp only [exec, execStatusSubscription]
    split
    exacts [keepsPool_next.mpr rfl, by simp]
  | statusLane p =>
    simp only [exec, execStatusLane]
    split
    exacts [keepsPool_next.mpr rfl, by simp]
  | statusFrontEnd p =>
    simp only [exec, execStatusFrontEnd]
    split
    exacts [keepsPool_next.mpr rfl, by simp]
  | statusPort p =>
    simp only [exec, execStatusPort]
    split
    exacts [keepsPool_next.mpr rfl, by simp]
  | uplinkFrame p bytes => exact keepsPool_ite (by simp)
  | responseSendComplete p | noticeSendComplete p | alertPulseEnd p => exact keepsPool_ite (by simp)
  | linkUp p =>
    simp only [exec, execLinkUp]
    split <;> simp
  | wakeCompletion | retuneCompletion | idleWindowSettled | minimumResidencyEnd | lastMoveStampDrop | clipEvent | quietTimeExpiry | overcurrentEvent | feedRestore | lastRestoreStampDrop =>
    exact keepsPool_ite (by simp)
  | lookup l =>
    simp only [exec, execLookup]
    split
    exacts [by simp, keepsPool_next.mpr rfl]
  | lockNotice l =>
    simp only [exec, execLockNotice]
    split
    exacts [by simp, keepsPool_next.mpr rfl]
  | releaseNotice l =>
    simp only [exec, execReleaseNotice]
    split
    exacts [by simp, keepsPool_next.mpr rfl]
  | restartAllocation l =>
    simp only [exec, execRestartAllocation]
    split
    exacts [by simp, keepsPool_next.mpr rfl]
  | lookupAnswer l =>
    simp only [exec, execLookupAnswer]
    split
    · split <;> simp
    · exact keepsPool_next.mpr rfl
  | restartAllocationAnswer l =>
    simp only [exec, execRestartAllocationAnswer]
    split
    · split <;> simp
    · exact keepsPool_next.mpr rfl
  | signalPresent l =>
    simp only [exec, execSignalPresent]
    split
    · split <;> simp
    · exact keepsPool_next.mpr rfl
  | senseTimeout l | carrierTimeout l | frameTimeout l | signallingMismatch l | verifyTimeout l | streamSync l | streamTimeout l | syncLost l | syncRegained l | coastExpiry l | recheckTimerExpiry l | unsettledExpiry l | retryExpiry l | lingerExpiry l =>
    exact keepsPool_ite (by simp)
  | carrierFound l offset mode guard | frameDecoded l c r cell | signallingMatch l cell | lanePacket l outcome bytes =>
    exact keepsPool_ite (by simp)
  | recheck l mode guard c r cell =>
    simp only [exec, execRecheck]
    split
    · split <;> simp
    · exact keepsPool_next.mpr rfl
  | errorRateWindowComplete l =>
    simp only [exec, execErrorRateWindowComplete]
    split
    exacts [keepsPool_next.mpr rfl, by simp]
  | rateReport l =>
    simp only [exec, execRateReport]
    split
    exacts [keepsPool_ite (by simp), keepsPool_next.mpr rfl]
  | laneStateChange l =>
    simp only [exec, execLaneStateChange]
    split
    exacts [keepsPool_ite (by simp), keepsPool_next.mpr rfl]
  | changeToFree l =>
    simp only [exec, execChangeToFree]
    split
    exacts [keepsPool_ite (by simp), keepsPool_next.mpr rfl]
  | logOccurrence place =>
    simp only [exec, execLogOccurrence]
    split
    exacts [keepsPool_next.mpr rfl, by simp]
  | _ => cases h

end Sys2Proof.Machine
end

section
/-! What Laws 4 and 5 (R144, R145) say of the pool alone, and the operations that remove entries from an output queue or
change a quota. -/

namespace Sys2Proof.Machine

variable {s t u : State} {p q : Port} {i : SlotId} {n : Nat}

/-! ## The two laws, apart from the sharing laws -/

/-- The reference counts (R144) while some removed or coming entries are owed: they count in their slots and stand in no
queue. -/
structure Counted (s : State) (owed : SlotId → Nat) : Prop where
  free : ∀ i, s.slot i = none → s.namings i + owed i = 0
  used : ∀ i x, s.slot i = some x → x.refs = s.namings i + owed i ∧ 1 ≤ x.refs

theorem slotLaw_iff : SlotLaw s ↔ Counted s (fun _ => 0) :=
  ⟨fun law => ⟨law.free, law.used⟩, fun law => ⟨law.free, law.used⟩⟩

/-- Law 5 (R145) for some output queues and quotas. -/
structure QuotaLaw (s : State) : Prop where
  within : ∀ p, (s.queue p).length ≤ s.quota p
  once : ∀ p, ((s.queue p).map Entry.slot).Nodup
  range : ∀ p, 8 ≤ s.quota p ∧ s.quota p ≤ 64
  total : s.quotaSum ≤ 128

/-- Laws 4 and 5 without Laws 1 and 2: what they say of the pool. -/
structure PoolLaw (s : State) : Prop where
  slots : SlotLaw s
  quotas : QuotaLaw s

theorem queueLaw_iff : QueueLaw s ↔ SharingLaw s ∧ PoolLaw s :=
  ⟨fun law => ⟨law.sharing, law.slots, law.within, law.once, law.range, law.total⟩,
    fun ⟨sharing, slots, quotas⟩ => ⟨sharing, slots, quotas.within, quotas.once, quotas.range, quotas.total⟩⟩

theorem slot_of_pool (h : t.pool = s.pool) : t.slot = s.slot := by funext i; rw [State.slot, h]; rfl
theorem queue_of_pool (h : t.pool = s.pool) : t.queue = s.queue := by funext p; rw [State.queue, h]; rfl
theorem quota_of_pool (h : t.pool = s.pool) : t.quota = s.quota := by funext p; rw [State.quota, h]; rfl

theorem namings_of_queue (h : t.queue = s.queue) : t.namings = s.namings := by
  funext i
  simp only [State.namings, h]

theorem Counted.of_pool {owed : SlotId → Nat} (h : Counted s owed) (same : t.pool = s.pool) : Counted t owed := by
  have namings := namings_of_queue (queue_of_pool same)
  have slots := slot_of_pool same
  exact ⟨fun i => by rw [slots, namings]; exact h.free i, fun i x => by rw [slots, namings]; exact h.used i x⟩

theorem QuotaLaw.of_pool (h : QuotaLaw s) (same : t.pool = s.pool) : QuotaLaw t := by
  have queues := queue_of_pool same
  have quotas := quota_of_pool same
  refine ⟨fun p => ?_, fun p => ?_, fun p => ?_, ?_⟩
  · rw [queues, quotas]; exact h.within p
  · rw [queues]; exact h.once p
  · rw [quotas]; exact h.range p
  · rw [State.quotaSum, quotas]; exact h.total

theorem PoolLaw.of_pool (h : PoolLaw s) (same : t.pool = s.pool) : PoolLaw t :=
  ⟨slotLaw_iff.mpr ((slotLaw_iff.mp h.slots).of_pool same), h.quotas.of_pool same⟩

/-! ## How many entries name a slot (R144) -/

@[simp] theorem naming_nil (i : SlotId) : naming i [] = 0 := rfl

theorem naming_append (i : SlotId) (a b : List Entry) : naming i (a ++ b) = naming i a + naming i b := by
  simp [naming]

theorem naming_cons (i : SlotId) (e : Entry) (rest : List Entry) :
    naming i (e :: rest) = (if e.slot = i then 1 else 0) + naming i rest := by
  unfold naming
  rw [List.filter_cons]
  split <;> simp_all [Nat.add_comm]

theorem naming_eq_zero {entries : List Entry} : naming i entries = 0 ↔ i ∉ entries.map Entry.slot := by
  unfold naming
  rw [List.length_eq_zero_iff, List.filter_eq_nil_iff]
  simp [eq_comm]

theorem namings_eq (s : State) (i : SlotId) :
    s.namings i = naming i (s.queue .a) + naming i (s.queue .b) + naming i (s.queue .c) + naming i (s.queue .d) := by
  simp [State.namings, Port.all, naming, Nat.add_assoc]

/-- Another queue at one port changes the number of namings by what it names. -/
theorem namings_of_queue_put {entries : List Entry} (queue : ∀ r, t.queue r = if p = r then entries else s.queue r)
    (i : SlotId) : t.namings i + naming i (s.queue p) = s.namings i + naming i entries := by
  rw [namings_eq, namings_eq, queue, queue, queue, queue]
  cases p <;> simp <;> omega

theorem le_namings (s : State) (i : SlotId) (p : Port) : naming i (s.queue p) ≤ s.namings i := by
  rw [namings_eq]
  cases p <;> omega

/-! ## Entries that leave a queue (R143, R144, R147, R157 to R159) -/

@[simp] theorem dropRef_queue (i : SlotId) (s : State) : (dropRef i s).queue = s.queue := by
  unfold dropRef
  split
  · rfl
  · split <;> rfl

@[simp] theorem dropRef_quota (i : SlotId) (s : State) : (dropRef i s).quota = s.quota := by
  unfold dropRef
  split
  · rfl
  · split <;> rfl

theorem dropRef_slot (i j : SlotId) (s : State) :
    (dropRef i s).slot j = if i = j then unnamed 1 (s.slot i) else s.slot j := by
  unfold dropRef unnamed
  cases found : s.slot i with
  | none =>
    by_cases e : i = j
    · subst e; simp [found]
    · simp [e]
  | some x =>
    by_cases last : x.refs ≤ 1
    · simp [last, Nat.not_lt.mpr last]
    · simp [last, Nat.not_le.mp last]

/-- An owed entry is taken off its slot's count. -/
theorem Counted.dropRef {e : Entry} {rest : List Entry} (h : Counted s (fun i => naming i (e :: rest))) :
    Counted (dropRef e.slot s) (fun i => naming i rest) := by
  have namings : (Machine.dropRef e.slot s).namings = s.namings := namings_of_queue (dropRef_queue ..)
  have owed : ∀ i, naming i (e :: rest) = (if e.slot = i then 1 else 0) + naming i rest := fun i => naming_cons i e rest
  refine ⟨fun i gone => ?_, fun i x found => ?_⟩
  · rw [namings]
    rw [dropRef_slot] at gone
    by_cases named : e.slot = i
    · subst named
      cases slot : s.slot e.slot with
      | none => have := h.free _ slot; rw [owed, if_pos rfl] at this; omega
      | some x =>
        obtain ⟨refs, -⟩ := h.used _ x slot
        rw [owed, if_pos rfl] at refs
        simp only [if_true, slot, unnamed] at gone
        by_cases more : 1 < x.refs
        · simp [more] at gone
        · omega
    · rw [if_neg named] at gone
      have := h.free i gone
      rw [owed, if_neg named] at this
      omega
  · rw [namings]
    rw [dropRef_slot] at found
    by_cases named : e.slot = i
    · subst named
      cases slot : s.slot e.slot with
      | none => simp [slot, unnamed] at found
      | some y =>
        obtain ⟨refs, -⟩ := h.used _ y slot
        rw [owed, if_pos rfl] at refs
        simp only [if_true, slot, unnamed] at found
        by_cases more : 1 < y.refs
        · simp only [more, if_true, one_ne_zero, if_false, Option.some.injEq] at found
          subst found
          simp only
          omega
        · simp [more] at found
    · rw [if_neg named] at found
      have := h.used i x found
      rw [owed, if_neg named, Nat.zero_add] at this
      exact this

/-- An operation over removed entries that takes each off its slot's count, and does nothing else to the pool. -/
structure Drops (f : Entry → State → State) : Prop where
  pool : ∀ e v, (f e v).pool = (dropRef e.slot v).pool

theorem Drops.forEach_queue {f : Entry → State → State} (h : Drops f) (entries : List Entry) (s : State) :
    (forEach entries f s).queue = s.queue ∧ (forEach entries f s).quota = s.quota := by
  induction entries generalizing s with
  | nil => exact ⟨rfl, rfl⟩
  | cons e rest ih =>
    obtain ⟨queue, quota⟩ := ih (f e s)
    rw [forEach_cons, queue, quota, queue_of_pool (h.pool e s), quota_of_pool (h.pool e s)]
    exact ⟨dropRef_queue .., dropRef_quota ..⟩

theorem Drops.counted {f : Entry → State → State} (h : Drops f) (entries : List Entry) (s : State)
    (counts : Counted s (fun i => naming i entries)) : SlotLaw (forEach entries f s) := by
  induction entries generalizing s with
  | nil => exact slotLaw_iff.mpr counts
  | cons e rest ih => exact ih (f e s) (counts.dropRef.of_pool (h.pool e s))

theorem drops_dropRef : Drops (fun e => dropRef e.slot) := ⟨fun _ _ => rfl⟩

theorem drops_discardEntry : Drops discardEntry := ⟨fun _ _ => countOverflow_pool _ _⟩

/-- A queue cut to a part of itself, with what it has lost owed. -/
theorem SlotLaw.cut {kept gone : List Entry} (h : SlotLaw s)
    (queue : ∀ r, t.queue r = if p = r then kept else s.queue r) (slot : t.slot = s.slot)
    (parts : ∀ i, naming i (s.queue p) = naming i kept + naming i gone) : Counted t (fun i => naming i gone) := by
  have namings : ∀ i, t.namings i + naming i gone = s.namings i := fun i => by
    have := namings_of_queue_put queue i
    have := parts i
    omega
  refine ⟨fun i gone => ?_, fun i x found => ?_⟩
  · rw [namings]; exact h.free i (slot ▸ gone)
  · rw [namings]; exact h.used i x (slot ▸ found)

/-! ## Queues that grow no longer, and a quota that changes (R145 to R148) -/

theorem quotaSum_eq (s : State) : s.quotaSum = s.quota .a + s.quota .b + s.quota .c + s.quota .d := by
  simp [State.quotaSum, Port.all, Nat.add_assoc]

theorem quotaSum_eq_others (s : State) (p : Port) : s.quotaSum = s.otherQuotas p + s.quota p := by
  rw [quotaSum_eq]
  unfold State.otherQuotas Port.all
  cases p <;> simp <;> omega

/-- Queues cut to parts of themselves, and another quota at one port: in its range, no less than the port's queue, and with
the other three at most 128. -/
theorem QuotaLaw.withQuota (h : QuotaLaw s) (queues : ∀ r, (t.queue r).Sublist (s.queue r))
    (quotas : ∀ r, t.quota r = if p = r then n else s.quota r) (room : (t.queue p).length ≤ n)
    (range : 8 ≤ n ∧ n ≤ 64) (fits : s.otherQuotas p + n ≤ 128) : QuotaLaw t := by
  refine ⟨fun r => ?_, fun r => ?_, fun r => ?_, ?_⟩
  · rw [quotas]
    split
    · next e => exact e ▸ room
    · exact (queues r).length_le.trans (h.within r)
  · exact (h.once r).sublist ((queues r).map Entry.slot)
  · rw [quotas]
    split
    · exact range
    · exact h.range r
  · have own : t.quota p = n := (quotas p).trans (if_pos rfl)
    have others : t.otherQuotas p = s.otherQuotas p := by
      unfold State.otherQuotas
      refine congrArg List.sum (List.map_congr_left fun r hr => ?_)
      rw [quotas, if_neg fun e => by simp [e] at hr]
    rw [quotaSum_eq_others t p, own, others]
    exact fits

theorem QuotaLaw.shrink (h : QuotaLaw s) (queues : ∀ r, (t.queue r).Sublist (s.queue r)) (quota : t.quota = s.quota) :
    QuotaLaw t :=
  h.withQuota (p := .a) queues (fun r => by rw [quota]; split <;> simp_all)
    ((queues .a).length_le.trans (h.within .a)) (h.range .a) (quotaSum_eq_others s .a ▸ h.total)

/-- Some entries leave a port's queue and the counts of their slots. -/
theorem PoolLaw.remove {f : Entry → State → State} {kept gone : List Entry} (h : PoolLaw s) (drops : Drops f)
    (sub : kept.Sublist (s.queue p)) (parts : ∀ i, naming i (s.queue p) = naming i kept + naming i gone)
    (before : t.pool = (s.setQueue p kept).pool) : PoolLaw (forEach gone f t) := by
  have queue : ∀ r, t.queue r = if p = r then kept else s.queue r := fun r => by
    rw [queue_of_pool before, State.setQueue_queue]
  obtain ⟨queues, quotas⟩ := drops.forEach_queue gone t
  have slot : t.slot = s.slot := slot_of_pool (s := s.setQueue p kept) before
  have quota : t.quota = s.quota := quota_of_pool (s := s.setQueue p kept) before
  refine ⟨drops.counted gone t (h.slots.cut queue slot parts), h.quotas.shrink (fun r => ?_) (quotas.trans quota)⟩
  rw [queues, queue]
  split
  · next e => exact e ▸ sub
  · exact List.Sublist.refl _

theorem PoolLaw.emptyQueue (h : PoolLaw s) (p : Port) : PoolLaw (emptyQueue p s) :=
  h.remove drops_dropRef (List.nil_sublist _) (fun i => by simp) rfl

theorem PoolLaw.emptyUnsent (h : PoolLaw s) (p : Port) : PoolLaw (emptyUnsent p s) := by
  unfold Machine.emptyUnsent
  split
  · refine h.remove drops_dropRef (List.take_sublist 1 _) (fun i => ?_) rfl
    rw [← naming_append, ← List.drop_one, List.take_append_drop]
  · exact h.emptyQueue p

theorem PoolLaw.packetSent (h : PoolLaw s) (p : Port) : PoolLaw (packetSent p s) := by
  unfold Machine.packetSent
  simp only
  split
  · exact h.of_pool rfl
  · next e rest queued =>
    refine h.remove (p := p) (gone := [e]) (kept := rest) drops_dropRef (queued ▸ List.sublist_cons_self e rest) (fun i => ?_)
      rfl
    rw [queued, naming_cons, naming_cons, naming_nil]
    omega

/-- A quota that is lowered cuts the queue from its tail (R147). -/
theorem PoolLaw.applyQuota (h : PoolLaw s) (range : 8 ≤ n ∧ n ≤ 64) (fits : s.otherQuotas p + n ≤ 128) :
    PoolLaw (applyQuota p n s) := by
  unfold Machine.applyQuota
  simp only
  generalize ht : s.setPool _ = t
  have queue : ∀ r, t.queue r = if p = r then (s.queue p).take n else s.queue r := fun r => by
    rw [← ht]; simp [State.queue]
  have quota : ∀ r, t.quota r = if p = r then n else s.quota r := fun r => by rw [← ht]; simp [State.quota]
  have slot : t.slot = s.slot := by rw [← ht]; rfl
  obtain ⟨queues, quotas⟩ := drops_discardEntry.forEach_queue ((s.queue p).drop n) t
  refine ⟨drops_discardEntry.counted _ t (h.slots.cut queue slot fun i => ?_),
    h.quotas.withQuota (fun r => ?_) (fun r => by rw [quotas, quota]) ?_ range fits⟩
  · rw [← naming_append, List.take_append_drop]
  · rw [queues, queue]
    split
    · next e => exact e ▸ List.take_sublist n _
    · exact List.Sublist.refl _
  · rw [queues, queue, if_pos rfl]
    exact List.length_take_le n _

/-- The default quota beside three quotas that leave room for 8 at least (R148). -/
theorem PoolLaw.restoreDefaults (h : PoolLaw s) (short : (s.queue p).length ≤ 8) : PoolLaw (restoreDefaults p s) := by
  have total := h.quotas.total
  have own := h.quotas.range p
  rw [quotaSum_eq_others s p] at total
  have others : (s.defaultQuota p) = min 32 (128 - s.otherQuotas p) := rfl
  refine ⟨⟨h.slots.free, h.slots.used⟩, h.quotas.withQuota (p := p) (n := s.defaultQuota p) (fun r => List.Sublist.refl _) (fun r => ?_) ?_ ?_ ?_⟩
  · show (s.pool.quotas.put p (s.defaultQuota p)).get r = _
    rw [PerPort.get_put]
    rfl
  · show (s.queue p).length ≤ _
    omega
  · omega
  · omega

end Sys2Proof.Machine
end

section
/-! A packet stored and queued for each subscription that accepts it (R149 to R155), and Laws 4 and 5 through every step. -/

namespace Sys2Proof.Machine

variable {s t u : State} {p q : Port} {i slot : SlotId} {l : LaneId} {m : PacketMsg} {keys rest : List (Port × SubId)}
  {k : Port × SubId} {marked : Bool}

/-! ## The subscriptions that accept a packet (R150) -/

theorem decisionAt_isSome {d : Decision} (h : s.decisionAt l m k = some d) : ∃ u, s.sub k.1 k.2 = some u ∧ u.lane = l := by
  unfold State.decisionAt at h
  split at h
  · cases h
  · next u found =>
    split at h
    · next lane => exact ⟨u, found, lane⟩
    · cases h

theorem accepting_isSome (h : k ∈ s.accepting l m) : ∃ u, s.sub k.1 k.2 = some u ∧ u.lane = l := by
  have decided := (List.mem_filter.mp h).2
  simp only [Bool.or_eq_true, decide_eq_true_eq] at decided
  exact decided.elim decisionAt_isSome decisionAt_isSome

/-- By Laws 1 and 2 a port holds one subscription at most on a lane. -/
theorem SharingLaw.oneSubPerPort (h : SharingLaw s) (l : LaneId) : OneSubPerPort s l := by
  intro p i j u v hu hv lu lv
  refine h.onePerPort p i j u v hu hv ?_
  have cu := h.laneOfSub p i u hu
  have cv := h.laneOfSub p j v hv
  rw [lu] at cu
  rw [lv, cu] at cv
  exact Option.some.inj cv

/-- A packet goes to each port once at most. -/
theorem accepting_ports_nodup (law : SharingLaw s) (l : LaneId) (m : PacketMsg) :
    ((s.accepting l m).map Prod.fst).Nodup := by
  have distinct : (s.accepting l m).Nodup := by
    unfold State.accepting State.keysWith
    exact nodup_allKeys.filter _
  refine distinct.map_on fun a ha b hb same => ?_
  obtain ⟨u, hu, lu⟩ := accepting_isSome ha
  obtain ⟨v, hv, lv⟩ := accepting_isSome hb
  refine Prod.ext same (law.oneSubPerPort l a.1 a.2 b.2 u v hu ?_ lu lv)
  rw [same]
  exact hv

/-! ## The slot (R143) -/

theorem pickSlot_free (h : s.pickSlot = some slot) : s.slot slot = none :=
  of_decide_eq_true (List.mem_filter.mp (List.mem_of_getElem? h)).2

/-! ## Appending the entries (R153) -/

/-- A stored packet with some entries still to append: they are owed to its slot, and each goes to a queue of its own that
has room and does not name the slot. -/
structure Storing (slot : SlotId) (keys : List (Port × SubId)) (s : State) : Prop where
  counts : Counted s (fun i => if slot = i then keys.length else 0)
  quotas : QuotaLaw s
  ports : (keys.map Prod.fst).Nodup
  room : ∀ k ∈ keys, (s.queue k.1).length < s.quota k.1
  unnamed : ∀ k ∈ keys, slot ∉ (s.queue k.1).map Entry.slot
  found : ∀ k ∈ keys, ∃ u, s.sub k.1 k.2 = some u

theorem Storing.appendEntry (h : Storing slot (k :: rest) s) : Storing slot rest (appendEntry l slot marked k s) := by
  obtain ⟨v, found⟩ := h.found k List.mem_cons_self
  obtain ⟨elsewhere, ports⟩ := List.nodup_cons.mp h.ports
  unfold Machine.appendEntry
  simp only [found]
  generalize he : Entry.mk slot _ _ _ _ _ _ = e
  have names : e.slot = slot := by rw [← he]
  generalize hw : State.setSub _ _ _ _ = w
  have queue : ∀ r, w.queue r = if k.1 = r then s.queue k.1 ++ [e] else s.queue r := fun r => by
    rw [← hw, queue_of_pool (setSub_pool ..), State.setQueue_queue]
  have quota : w.quota = s.quota := by rw [← hw]; rfl
  have slots : w.slot = s.slot := by rw [← hw]; rfl
  have other : ∀ r ∈ rest, k.1 ≠ r.1 := fun r hr same => elsewhere (same ▸ List.mem_map_of_mem hr)
  have namings : ∀ i, w.namings i = s.namings i + if slot = i then 1 else 0 := fun i => by
    have := namings_of_queue_put queue i
    rw [naming_append, naming_cons, names, naming_nil] at this
    omega
  refine ⟨⟨fun i gone => ?_, fun i x used => ?_⟩, ⟨fun r => ?_, fun r => ?_, ?_, ?_⟩, ports, fun r hr => ?_, fun r hr => ?_,
    fun r hr => ?_⟩
  · have := h.counts.free i (slots ▸ gone)
    rw [namings]
    split at this <;> simp_all
  · obtain ⟨refs, pos⟩ := h.counts.used i x (slots ▸ used)
    rw [namings]
    refine ⟨?_, pos⟩
    by_cases e : slot = i
    · rw [if_pos e, List.length_cons] at refs; rw [if_pos e, if_pos e]; omega
    · rw [if_neg e] at refs; rw [if_neg e, if_neg e]; omega
  · rw [queue, quota]
    split
    · next e => rw [← e, List.length_append]; exact h.room k List.mem_cons_self
    · exact h.quotas.within r
  · rw [queue]
    split
    · rw [List.map_append, List.map_singleton, names]
      exact (h.quotas.once k.1).append (List.nodup_singleton slot) fun x hx hs =>
        h.unnamed k List.mem_cons_self (List.mem_singleton.mp hs ▸ hx)
    · exact h.quotas.once r
  · intro r; rw [quota]; exact h.quotas.range r
  · rw [State.quotaSum, quota]; exact h.quotas.total
  · rw [queue, if_neg (other r hr), quota]; exact h.room r (List.mem_cons_of_mem k hr)
  · rw [queue, if_neg (other r hr)]; exact h.unnamed r (List.mem_cons_of_mem k hr)
  · obtain ⟨x, hx⟩ := h.found r (List.mem_cons_of_mem k hr)
    refine ⟨x, ?_⟩
    rw [← hw, State.setSub_sub, if_neg fun e => other r hr e.1, State.setQueue_sub, hx]

theorem Storing.forEach (h : Storing slot keys s) : PoolLaw (forEach keys (Machine.appendEntry l slot marked) s) := by
  induction keys generalizing s with
  | nil => exact ⟨slotLaw_iff.mpr ⟨by simpa using h.counts.free, by simpa using h.counts.used⟩, h.quotas⟩
  | cons k rest ih => exact ih h.appendEntry

/-- A free slot takes a packet for some ports' queues. -/
theorem PoolLaw.storing {packet : List Byte} (h : PoolLaw s) (free : s.slot slot = none) (some_keys : keys ≠ [])
    (ports : (keys.map Prod.fst).Nodup) (room : ∀ k ∈ keys, s.hasRoom k.1 = true)
    (found : ∀ k ∈ keys, ∃ u, s.sub k.1 k.2 = some u) :
    Storing slot keys { s.setSlot slot (some { packet, refs := keys.length }) with slotPicks := s.slotPicks + 1 } := by
  generalize ht : ({ s.setSlot slot _ with slotPicks := _ } : State) = t
  have queue : t.queue = s.queue := by rw [← ht]; rfl
  have quota : t.quota = s.quota := by rw [← ht]; rfl
  have subs : ∀ p i, t.sub p i = s.sub p i := fun p i => by rw [← ht]; rfl
  have namings : t.namings = s.namings := namings_of_queue queue
  have slots : ∀ i, t.slot i = if slot = i then some { packet, refs := keys.length } else s.slot i := fun i => by
    rw [← ht]
    exact s.setSlot_slot slot i _
  have none_names : s.namings slot = 0 := h.slots.free slot free
  refine ⟨⟨fun i gone => ?_, fun i x used => ?_⟩, h.quotas.shrink (fun r => queue ▸ List.Sublist.refl _) quota, ports,
    fun k hk => ?_, fun k _ => ?_, fun k hk => ?_⟩
  · rw [slots] at gone
    rw [namings]
    by_cases e : slot = i
    · simp [e] at gone
    · rw [if_neg e] at gone ⊢; exact h.slots.free i gone
  · rw [slots] at used
    rw [namings]
    by_cases e : slot = i
    · rw [if_pos e] at used ⊢
      rw [← e, none_names, ← Option.some.inj used, Nat.zero_add]
      exact ⟨rfl, List.length_pos_iff.mpr some_keys⟩
    · rw [if_neg e] at used ⊢; exact h.slots.used i x used
  · rw [queue, quota]; exact of_decide_eq_true (room k hk)
  · rw [queue, ← naming_eq_zero]
    have := le_namings s slot k.1
    omega
  · rw [subs]; exact found k hk

/-! ## A whole packet event (R149 to R155) -/

theorem countOverflows_pool (keys : List (Port × SubId)) (s : State) : (forEach keys countOverflow s).pool = s.pool :=
  (Touches.forEach (fun k t => touches_countOverflow t k) keys s).same .pool (by decide)

theorem PoolLaw.storePacket (h : PoolLaw s) (some_keys : keys ≠ []) (ports : (keys.map Prod.fst).Nodup)
    (room : ∀ k ∈ keys, s.hasRoom k.1 = true) (found : ∀ k ∈ keys, ∃ u, s.sub k.1 k.2 = some u) :
    PoolLaw (storePacket l m keys s) := by
  unfold Machine.storePacket
  simp only
  split
  · exact h.of_pool (countOverflows_pool keys s)
  · next slot picked => exact (h.storing (pickSlot_free picked) some_keys ports room found).forEach

theorem PoolLaw.takePacket (law : SharingLaw s) (h : PoolLaw s) : PoolLaw (takePacket l m s) := by
  unfold Machine.takePacket
  split
  · exact h
  · simp only
    generalize hw : forEach _ (overflow l) _ = w
    have counted : Steady s w := hw ▸ (Steady.forEach (fun k _ => steady_modSub) _ s).trans
      (Steady.forEach (fun k _ => steady_overflow l k) _ _)
    have pool : w.pool = s.pool := hw ▸ Eq.trans
      ((Touches.forEach (fun k t => touches_overflow t l k) _ _).same .pool (by decide))
      ((Touches.forEach (fun k t => touches_countErrorDrop t k) _ s).same .pool (by decide))
    split
    · exact h.of_pool pool
    · next some_keys =>
      refine (h.of_pool pool).storePacket some_keys ?_ (fun k hk => ?_) (fun k hk => ?_)
      · exact (accepting_ports_nodup law l m).sublist (List.filter_sublist.map _)
      · rw [State.hasRoom, queue_of_pool pool, quota_of_pool pool]
        exact (List.mem_filter.mp hk).2
      · obtain ⟨u, found, -⟩ := accepting_isSome (List.mem_filter.mp hk).1
        have same := counted.subs k.1 k.2
        rw [found, Option.map_some] at same
        obtain ⟨v, hv, -⟩ := Option.map_eq_some_iff.mp same
        exact ⟨v, hv⟩

/-! ## The other commands that change the pool -/

theorem clampQuota_range (n : Nat) : 8 ≤ clampQuota n ∧ clampQuota n ≤ 64 := by
  unfold clampQuota Config.quotaLow Config.quotaHigh
  omega

theorem emptyQueue_queue (p : Port) (s : State) : (emptyQueue p s).queue p = [] := by
  unfold Machine.emptyQueue dropRefs
  rw [(drops_dropRef.forEach_queue _ _).1, State.setQueue_queue, if_pos rfl]

theorem PoolLaw.expireHold (h : PoolLaw s) (p : Port) : PoolLaw (expireHold p s) := by
  unfold Machine.expireHold
  simp only
  generalize hw : removeAll p _ = w
  have law : PoolLaw w := h.of_pool (by rw [← hw]; simp)
  have restored : PoolLaw (Machine.restoreDefaults p (Machine.emptyQueue p w)) :=
    (law.emptyQueue p).restoreDefaults (by rw [emptyQueue_queue]; exact Nat.zero_le 8)
  exact restored.of_pool (reportPort_pool ..)

theorem emptyUnsent_queue_length (p : Port) (s : State) : ((emptyUnsent p s).queue p).length ≤ 1 := by
  unfold Machine.emptyUnsent
  split
  · unfold dropRefs
    rw [(drops_dropRef.forEach_queue _ _).1, State.setQueue_queue, if_pos rfl]
    exact List.length_take_le 1 _
  · rw [emptyQueue_queue]
    exact Nat.zero_le 1

theorem PoolLaw.portReset (h : PoolLaw s) (p : Port) : PoolLaw (portReset p s) := by
  have law : PoolLaw (removeAll p s) := h.of_pool (removeAll_pool p s)
  have restored : PoolLaw (Machine.restoreDefaults p (Machine.emptyUnsent p (removeAll p s))) :=
    (law.emptyUnsent p).restoreDefaults ((emptyUnsent_queue_length p _).trans (by decide))
  exact restored.of_pool (by simp [Machine.portReset])

/-- The quota that a PORT_SETUP gives, if any, applied (R146, R147). -/
def quotaApplied (p : Port) (quota : Option Nat) (s : State) : State :=
  match quota with
  | none => s
  | some n => applyQuota p (clampQuota n) s

/-- Every given field of a PORT_SETUP applied, and the front end moved toward the target (R35, R138). -/
def fieldsApplied (p : Port) (b : PortSetupBody) (s : State) : State :=
  retarget s.target ((quotaApplied p b.quota s).modAdmPort p (fun a =>
    { a with capacity := b.capacityAfter (s.admPort p), standby := b.standby.getD a.standby }))

/-- A PORT_SETUP with its fields applied and re-admission over, before its answer (R135, R138). -/
def setupReadmitted (p : Port) (b : PortSetupBody) (s : State) : State :=
  if (s.admPort p).capacity < b.capacityAfter (s.admPort p) then readmit p (fieldsApplied p b s) else fieldsApplied p b s

theorem applySetup_eq (p : Port) (b : PortSetupBody) (s : State) :
    applySetup p b s = respond p .ok
      (enc32 ((setupReadmitted p b s).admPort p).capacity ++ enc8 ((setupReadmitted p b s).quota p) ++
        enc8 ((setupReadmitted p b s).admPort p).standby.code ++ enc32 ((setupReadmitted p b s).admPort p).committed ++
        enc8 (s.overQuota p b.quota))
      (setupReadmitted p b s) := rfl

theorem setupReadmitted_pool (p : Port) (b : PortSetupBody) (s : State) :
    (setupReadmitted p b s).pool = (quotaApplied p b.quota s).pool := by
  unfold setupReadmitted fieldsApplied
  split <;> simp

theorem PoolLaw.portSetup (h : PoolLaw s) (p : Port) (body : List Byte) : PoolLaw (portSetup p body s) := by
  unfold Machine.portSetup
  simp only
  split
  · exact h.of_pool (respond_pool ..)
  · split
    · exact h.of_pool (respond_pool ..)
    · next accepted =>
      have law : PoolLaw (quotaApplied p (PortSetupBody.read body).quota s) := by
        unfold quotaApplied
        split
        · exact h
        · next n given =>
          refine h.applyQuota (clampQuota_range n) ?_
          simpa [given, State.quotaRefused] using accepted
      rw [applySetup_eq]
      exact law.of_pool ((respond_pool ..).trans (setupReadmitted_pool ..))

theorem handLinger_pool (before : Settings) (s : State) : (handLinger before s).pool = s.pool := by
  unfold handLinger
  split
  · rfl
  · exact (Touches.forEach (fun l t => touches_releaseLane t l) _ s).same .pool (by decide)

theorem PoolLaw.handHold (h : PoolLaw s) (before : Settings) : PoolLaw (handHold before s) := by
  unfold Machine.handHold
  split
  · exact h
  · exact forEach_keeps _ (fun q _ t law => PoolLaw.expireHold (law.of_pool (takeReports_pool t)) q) h

theorem PoolLaw.installSet (h : PoolLaw s) (p : Port) (body : List Byte) : PoolLaw (installSet p body s) := by
  unfold Machine.installSet
  simp only
  split
  · exact h.of_pool (by simp)
  · generalize hw : handLinger _ _ = w
    have law : PoolLaw w := h.of_pool (by rw [← hw, handLinger_pool]; rfl)
    exact (law.handHold s.plan.settings).of_pool (by simp)

theorem PoolLaw.reset (h : AfterEitherReset t) : PoolLaw t := by
  obtain ⟨free, empty⟩ := h.pool
  have quota : ∀ p, t.quota p = 32 := fun p => (h.portSettings p).2.2.2
  have namings : ∀ i, t.namings i = 0 := fun i => by simp [namings_eq, empty]
  refine ⟨⟨fun i _ => namings i, fun i x used => ?_⟩, ⟨fun p => ?_, fun p => ?_, fun p => ?_, ?_⟩⟩
  · rw [free] at used; cases used
  · rw [empty]; exact Nat.zero_le _
  · rw [empty]; exact List.nodup_nil
  · rw [quota]; decide
  · rw [quotaSum_eq, quota, quota, quota, quota]

/-! ## Every step -/

theorem exec_keeps_poolLaw (law : SharingLaw s) (h : PoolLaw s) (c : Instr) : Yields PoolLaw (exec c s) := by
  by_cases changes : changesPool c = false
  · exact (exec_pool changes).imp h.of_pool
  cases c with
  | coldReset => exact PoolLaw.reset (afterEitherReset_afterCold s)
  | warmReset =>
    rw [exec_warmReset]
    exact PoolLaw.reset (afterEitherReset_warmBase_setLog s _)
  | installSet p =>
    simp only [exec, execInstallSet]
    split
    exacts [h, (h.installSet p _).of_pool (settle_pool _)]
  | portSetup p =>
    simp only [exec, execPortSetup]
    split
    exacts [h, (PoolLaw.portSetup (h.of_pool (markServed_pool p s)) p _).of_pool (settle_pool _)]
  | portReset p =>
    simp only [exec, execPortReset]
    split
    exacts [h, (PoolLaw.portReset (h.of_pool (markServed_pool p s)) p).of_pool (settle_pool _)]
  | linkDown p =>
    refine yields_ite (fun _ => ?_) h
    generalize hw : forgetAsker p _ = w
    have law : PoolLaw w := h.of_pool (by rw [← hw]; simp)
    exact (law.emptyQueue p).of_pool (by simp)
  | holdExpiry p =>
    refine yields_ite (fun _ => ?_) h
    exact (PoolLaw.expireHold (h.of_pool (takeReports_pool s)) p).of_pool (by simp)
  | sendComplete p => exact yields_ite (fun _ => (h.packetSent p).of_pool (settle_pool _)) h
  | packetEvent l =>
    simp only [exec, execPacketEvent]
    split
    · exact h
    · have popped : Steady s (popPacket l s) := steady_setMail
      exact (PoolLaw.takePacket (law.steady popped) (h.of_pool (popPacket_pool l s))).of_pool (settle_pool _)
  | _ => exact absurd rfl changes

/-- Settles O52: Laws 1 and 2 are kept by each step, and what Laws 4 and 5 add speaks of the pool alone, which each command
either leaves as it was or changes by entries that come and go with their slots' counts. -/
theorem stepKeepsSlotsAndQueues : Obligations.StepKeepsSlotsAndQueues := by
  intro s t law stepped
  obtain ⟨sharing, pool⟩ := queueLaw_iff.mp law
  refine queueLaw_iff.mpr ⟨stepKeepsSharesAndChannels s t sharing stepped, ?_⟩
  cases queued : s.pending with
  | nil =>
    rw [step_eq_tick queued] at stepped
    exact Host.Outcome.next.inj stepped ▸ pool.of_pool rfl
  | cons c rest =>
    rw [step_eq_exec queued] at stepped
    exact (exec_keeps_poolLaw (sharing.steady (steady_pending rest)) (pool.of_pool rfl) c).next stepped

end Sys2Proof.Machine
end

section
/-! The admission arbiter (R122): its round over the ports, the requests that wait at it, and that each command of the
admission controller leaves the port served last as the arbiter has set it. -/

namespace Sys2Proof.Machine

variable {s t : State} {p q : Port} {c : ReqKind × Instr} {k : ReqKind} {body : List Byte}

/-! ## The round over the ports -/

/-- The first item with a property, in a list that holds every item in the order of a key, is the one of least key. -/
theorem find?_eq_some_iff_least {α : Type} {key : α → Nat} {has : α → Bool} {a : α} {items : List α}
    (ascending : items.Pairwise (fun x y => key x < key y)) (all : ∀ x, x ∈ items) :
    items.find? has = some a ↔ has a = true ∧ ∀ b, key b < key a → has b = false := by
  rw [List.find?_eq_some_iff_append]
  refine and_congr_right fun _ => ⟨?_, fun least => ?_⟩
  · rintro ⟨front, back, rfl, passed⟩ b below
    obtain ⟨-, after, -⟩ := List.pairwise_append.mp ascending
    rcases List.mem_append.mp (all b) with inFront | inBack
    · simpa using passed b inFront
    · rcases List.mem_cons.mp inBack with rfl | later
      · exact absurd below (Nat.lt_irrefl _)
      · exact absurd ((List.pairwise_cons.mp after).1 b later) (Nat.lt_asymm below)
  · obtain ⟨front, back, rfl⟩ := List.append_of_mem (all a)
    obtain ⟨-, -, before⟩ := List.pairwise_append.mp ascending
    exact ⟨front, back, rfl, fun b hb => by simp [least b (before b hb a List.mem_cons_self)]⟩

theorem after_ascending (last : Port) :
    last.after.Pairwise (fun p q => turnsAfter last p < turnsAfter last q) := by
  cases last <;> decide

theorem mem_after (last p : Port) : p ∈ last.after := by
  cases last <;> cases p <;> decide

theorem arbiterChoice_eq_some :
    s.arbiterChoice = some p ↔ s.waitsAtArbiter p = true ∧
      ∀ q, turnsAfter s.adm.lastServed q < turnsAfter s.adm.lastServed p → s.waitsAtArbiter q = false :=
  find?_eq_some_iff_least (after_ascending _) (mem_after _)

theorem arbiterChoice_eq_none : s.arbiterChoice = none ↔ ∀ p, s.waitsAtArbiter p = false := by
  unfold State.arbiterChoice
  rw [List.find?_eq_none]
  simp [mem_after]

/-! ## The requests that wait (R122, R170) -/

theorem ReqKind.ofCode_code (k : ReqKind) : ReqKind.ofCode k.code = some k := by cases k <;> rfl

theorem ReqKind.ofCode_eq_some {b : Byte} : ReqKind.ofCode b = some k ↔ b = k.code := by
  refine ⟨fun h => ?_, fun h => h ▸ k.ofCode_code⟩
  exact (of_decide_eq_true (List.find?_some (p := fun r : ReqKind => decide (r.code = b)) h)).symm

theorem ReqKind.code_injective {k j : ReqKind} (h : k.code = j.code) : k = j :=
  Option.some.inj (k.ofCode_code.symm.trans (h ▸ j.ofCode_code))

theorem isAdmission_iff (p : Port) : k.isAdmission = true ↔ ∃ c ∈ admissionCommands p, c.1 = k := by
  cases k <;> simp [ReqKind.isAdmission, admissionCommands]

theorem headBody_eq_some :
    s.headBody p k = some body ↔ ∃ r, s.headRequest p = some r ∧ r.kind = k.code ∧ r.body = body := by
  unfold State.headBody
  cases s.headRequest p with
  | none => simp
  | some r => by_cases kind : r.kind = k.code <;> simp [kind]

theorem standsBack_eq_false {r : Request} (kind : r.kind = k.code) :
    s.standsBack r = false ↔ ¬ (k = .subscribe ∧ ∃ d, s.plan.discard = some d ∧ byteAt r.body 0 = d.index.val) := by
  have subscribes : r.kind = ReqKind.subscribe.code ↔ k = .subscribe := by
    rw [kind]
    exact ⟨ReqKind.code_injective, congrArg ReqKind.code⟩
  unfold State.standsBack
  cases s.plan.discard with
  | none => simp
  | some d => simp [subscribes]

/-- An admission request at a port's head waits, but for a SUBSCRIBE that names the index of a discard not yet made. -/
theorem waitsAtArbiter_iff :
    s.waitsAtArbiter p = true ↔ ∃ c ∈ admissionCommands p, ∃ body, s.headBody p c.1 = some body ∧
      ¬ (c.1 = .subscribe ∧ ∃ d, s.plan.discard = some d ∧ byteAt body 0 = d.index.val) := by
  constructor
  · intro waits
    unfold State.waitsAtArbiter at waits
    cases head : s.headRequest p with
    | none => simp [head] at waits
    | some r =>
      cases code : ReqKind.ofCode r.kind with
      | none => simp [head, code] at waits
      | some k =>
        have kind := ReqKind.ofCode_eq_some.mp code
        simp only [head, code, Option.map_some, Option.getD_some, Bool.and_eq_true, Bool.not_eq_true'] at waits
        obtain ⟨admission, stays⟩ := waits
        obtain ⟨c, mem, rfl⟩ := (isAdmission_iff p).mp admission
        exact ⟨c, mem, r.body, headBody_eq_some.mpr ⟨r, head, kind, rfl⟩, (standsBack_eq_false kind).mp stays⟩
  · rintro ⟨c, mem, body, asked, stays⟩
    obtain ⟨r, head, kind, rfl⟩ := headBody_eq_some.mp asked
    unfold State.waitsAtArbiter
    simp only [head, kind, ReqKind.ofCode_code, Option.map_some, Option.getD_some, (isAdmission_iff p).mpr ⟨c, mem, rfl⟩,
      (standsBack_eq_false kind).mpr stays, Bool.not_false, Bool.and_self]

/-- A SUBSCRIBE that stands back is not granted (log entry 26). -/
theorem arbiterChoice_ne_of_standsBack {d : DiscardAsk} (asked : s.headBody p .subscribe = some body)
    (awaited : s.plan.discard = some d) (names : byteAt body 0 = d.index.val) : s.arbiterChoice ≠ some p := by
  obtain ⟨r, head, kind, rfl⟩ := headBody_eq_some.mp asked
  intro chosen
  have waits := (arbiterChoice_eq_some.mp chosen).1
  have back : s.standsBack r = true := by
    rw [← Bool.not_eq_false, standsBack_eq_false (k := .subscribe) kind]
    exact fun stays => stays ⟨rfl, d, awaited, names⟩
  simp [State.waitsAtArbiter, head, back] at waits

/-! ## The port served last through the admission controller's operations -/

/-- An operation that leaves the admission controller's tables leaves the port served last. -/
theorem Touches.lastServed {parts : List Part} (h : Touches parts s t) (apart : .adm ∉ parts := by decide) :
    t.adm.lastServed = s.adm.lastServed :=
  congrArg Admission.lastServed (h.same .adm apart)

@[simp] theorem respond_lastServed (p : Port) (status : Status) (fields : List Byte) (s : State) :
    (respond p status fields s).adm.lastServed = s.adm.lastServed := (touches_respond s p status fields).lastServed
@[simp] theorem raiseNotice_lastServed (n : Notice) (p : Port) (s : State) :
    (raiseNotice n p s).adm.lastServed = s.adm.lastServed := (touches_raiseNotice s n p).lastServed
@[simp] theorem raiseRemoved_lastServed (p : Port) (i : SubId) (s : State) :
    (raiseRemoved p i s).adm.lastServed = s.adm.lastServed := raiseNotice_lastServed _ p s
@[simp] theorem retarget_lastServed (before : Target) (s : State) :
    (retarget before s).adm.lastServed = s.adm.lastServed := (touches_retarget s before).lastServed
@[simp] theorem emptyUnsent_lastServed (p : Port) (s : State) :
    (emptyUnsent p s).adm.lastServed = s.adm.lastServed := (touches_emptyUnsent s p).lastServed
@[simp] theorem dropRef_lastServed (i : SlotId) (s : State) :
    (dropRef i s).adm.lastServed = s.adm.lastServed := (touches_dropRef s i).lastServed
@[simp] theorem setSub_lastServed (p : Port) (i : SubId) (x : Option Sub) (s : State) :
    (s.setSub p i x).adm.lastServed = s.adm.lastServed := rfl
@[simp] theorem modAdmPort_lastServed (p : Port) (f : AdmPort → AdmPort) (s : State) :
    (s.modAdmPort p f).adm.lastServed = s.adm.lastServed := rfl
@[simp] theorem restoreDefaults_lastServed (p : Port) (s : State) :
    (restoreDefaults p s).adm.lastServed = s.adm.lastServed := rfl

/-- What each item's operation leaves as it was, an operation over a list leaves. -/
theorem forEach_lastServed {α : Type} {f : α → State → State}
    (one : ∀ x t, (f x t).adm.lastServed = t.adm.lastServed) (items : List α) (s : State) :
    (forEach items f s).adm.lastServed = s.adm.lastServed :=
  forEach_keeps (P := fun t => t.adm.lastServed = s.adm.lastServed) items (fun x _ t h => (one x t).trans h) rfl

@[simp] theorem rederive_lastServed (always : Bool) (p : Port) (i : SubId) (s : State) :
    (rederive always p i s).adm.lastServed = s.adm.lastServed := by
  unfold rederive
  split
  · rfl
  · split
    · rfl
    · simp only
      split <;> simp

@[simp] theorem readmit_lastServed (p : Port) (s : State) : (readmit p s).adm.lastServed = s.adm.lastServed := by
  refine forEach_lastServed (fun i t => ?_) allIds s
  unfold readmitOne
  split
  · rfl
  · simp only
    split <;> simp

@[simp] theorem removeAll_lastServed (p : Port) (s : State) : (removeAll p s).adm.lastServed = s.adm.lastServed := by
  refine forEach_lastServed (fun i t => ?_) allIds s
  unfold removeWithNotice
  split
  · rfl
  · rw [raiseRemoved_lastServed, removeSub_lastServed]

@[simp] theorem countOverflow_lastServed (k : Port × SubId) (s : State) :
    (countOverflow k s).adm.lastServed = s.adm.lastServed := by
  unfold countOverflow State.modSub
  split <;> rfl

@[simp] theorem quotaApplied_lastServed (p : Port) (quota : Option Nat) (s : State) :
    (quotaApplied p quota s).adm.lastServed = s.adm.lastServed := by
  unfold quotaApplied
  split
  · rfl
  · unfold applyQuota
    refine (forEach_lastServed (fun e t => ?_) _ _).trans rfl
    exact (countOverflow_lastServed _ _).trans (dropRef_lastServed _ t)

@[simp] theorem takeLane_lastServed (choice : LaneChoice) (x : PlanIndex) (rate : Option Nat) (s : State) :
    (takeLane choice x rate s).adm.lastServed = s.adm.lastServed := by
  cases choice with
  | share l => rfl
  | free l => exact (sameAdmPorts_assignLane l x rate s).2
  | reclaim l => exact ((sameAdmPorts_releaseWithin l s).trans (sameAdmPorts_assignLane l x rate _)).2

@[simp] theorem createSub_lastServed (p : Port) (b : SubscribeBody) (i : SubId) (choice : LaneChoice)
    (move rate : Option Nat) (charge : Nat) (s : State) :
    (createSub p b i choice move rate charge s).adm.lastServed = s.adm.lastServed := by
  unfold createSub
  cases move with
  | none => simp
  | some position => simp [(sameAdmPorts_moveWindow position s).2]

/-! ## The six admission requests -/

theorem subscribe_lastServed (p : Port) (body : List Byte) (s : State) :
    (subscribe p body s).adm.lastServed = s.adm.lastServed := by
  unfold subscribe
  split
  · simp
  · split <;> simp

theorem unsubscribe_lastServed (p : Port) (body : List Byte) (s : State) :
    (unsubscribe p body s).adm.lastServed = s.adm.lastServed := by
  unfold unsubscribe
  split
  · simp
  · split
    · simp
    · unfold unsubscribeAt
      rw [retarget_lastServed]
      split <;> simp [removeSub_lastServed]

theorem filterSet_lastServed (p : Port) (body : List Byte) (s : State) :
    (filterSet p body s).adm.lastServed = s.adm.lastServed := by
  unfold filterSet
  split
  · split <;> simp
  · simp

theorem portSetup_lastServed (p : Port) (body : List Byte) (s : State) :
    (portSetup p body s).adm.lastServed = s.adm.lastServed := by
  unfold portSetup
  simp only
  split
  · simp
  · split
    · simp
    · rw [applySetup_eq, respond_lastServed]
      unfold setupReadmitted fieldsApplied
      split <;> simp

theorem portReset_lastServed (p : Port) (s : State) : (portReset p s).adm.lastServed = s.adm.lastServed := by
  simp [portReset]

theorem windowSet_lastServed (p : Port) (body : List Byte) (s : State) :
    (windowSet p body s).adm.lastServed = s.adm.lastServed := by
  unfold windowSet
  simp only
  split
  · simp
  · split
    · simp
    · split
      · simp
      · simp [(sameAdmPorts_moveWindow _ s).2]

/-- What the admission controller makes of a request of each kind, once its port is marked as served. -/
def admissionAction (p : Port) (body : List Byte) (s : State) : ReqKind → State
  | .subscribe => subscribe p body s
  | .unsubscribe => unsubscribe p body s
  | .filterSet => filterSet p body s
  | .portSetup => portSetup p body s
  | .portReset => portReset p s
  | .windowSet => windowSet p body s
  | _ => s

theorem admissionAction_lastServed (p : Port) (body : List Byte) (s : State) (k : ReqKind) :
    (admissionAction p body s k).adm.lastServed = s.adm.lastServed := by
  cases k with
  | subscribe => exact subscribe_lastServed p body s
  | unsubscribe => exact unsubscribe_lastServed p body s
  | filterSet => exact filterSet_lastServed p body s
  | portSetup => exact portSetup_lastServed p body s
  | portReset => exact portReset_lastServed p s
  | windowSet => exact windowSet_lastServed p body s
  | _ => rfl

/-- The command of an admission request: what the request asks for where the arbiter grants it, and otherwise nothing. -/
theorem exec_admission (mem : c ∈ admissionCommands p) :
    exec c.2 s = (s.granted p c.1).elim (.next s) fun body =>
      .next (settle (admissionAction p body (markServed p s) c.1)) := by
  simp only [admissionCommands, List.mem_cons, List.not_mem_nil, or_false] at mem
  rcases mem with rfl | rfl | rfl | rfl | rfl | rfl
  · simp only [exec, execSubscribe]; cases s.granted p .subscribe <;> rfl
  · simp only [exec, execUnsubscribe]; cases s.granted p .unsubscribe <;> rfl
  · simp only [exec, execFilterSet]; cases s.granted p .filterSet <;> rfl
  · simp only [exec, execPortSetup]; cases s.granted p .portSetup <;> rfl
  · simp only [exec, execPortReset]; cases s.granted p .portReset <;> rfl
  · simp only [exec, execWindowSet]; cases s.granted p .windowSet <;> rfl

theorem exec_admission_of_not_chosen (mem : c ∈ admissionCommands p) (passed : s.arbiterChoice ≠ some p) :
    exec c.2 s = .next s := by
  rw [exec_admission mem, State.granted, if_neg passed]
  rfl

theorem exec_admission_of_granted (mem : c ∈ admissionCommands p) (granted : s.granted p c.1 = some body) :
    exec c.2 s = .next (settle (admissionAction p body (markServed p s) c.1)) := by
  rw [exec_admission mem, granted]
  rfl

/-- Settles O28: the round holds every port once, so that its first waiting port is the nearest one; and the command of a
port that is not granted finds nothing to take. -/
theorem arbiterTakesPortsInTurn : Obligations.ArbiterTakesPortsInTurn := by
  refine fun s => ⟨arbiterChoice_eq_none, fun p => arbiterChoice_eq_some, fun p => waitsAtArbiter_iff, fun p c mem =>
    ⟨exec_admission_of_not_chosen mem, fun body granted => ⟨_, exec_admission_of_granted mem granted, ?_⟩,
      fun body d kind asked awaited names => ?_⟩⟩
  · rw [settle_adm, admissionAction_lastServed]
    rfl
  · exact exec_admission_of_not_chosen mem (arbiterChoice_ne_of_standsBack asked awaited names)

end Sys2Proof.Machine
end

section
/-! PID lists (R116, R197, R200) and FILTER_SET (R132). -/

namespace Sys2Proof.Machine

variable {s : State} {p : Port} {i : SubId} {u : Sub} {body : List Byte} {place : Nat} {pids : List Nat}

/-! ## The PIDs of a body (R197, R200) -/

theorem pidsAt_succ (body : List Byte) (start count : Nat) :
    pidsAt body start (count + 1) = word16At body start :: pidsAt body (start + 2) count := by
  unfold pidsAt
  rw [List.range_succ_eq_map, List.map_cons, List.map_map]
  refine congrArg _ (List.map_congr_left fun i _ => ?_)
  simp only [Function.comp, Nat.succ_eq_add_one]
  congr 1
  omega

theorem byteAt_append (start rest : List Byte) (n : Nat) : byteAt (start ++ rest) (start.length + n) = byteAt rest n := by
  simp [byteAt, List.getElem?_append_right (Nat.le_add_right start.length n)]

theorem word16At_append (start rest : List Byte) (x : Byte × Byte) :
    word16At (start ++ x.1 :: x.2 :: rest) start.length = numberOf [x.1, x.2] := by
  have first := byteAt_append start (x.1 :: x.2 :: rest) 0
  have second := byteAt_append start (x.1 :: x.2 :: rest) 1
  unfold word16At
  rw [Nat.add_zero] at first
  rw [first, second]
  simp [byteAt, numberOf]

/-- A list's PIDs are read as they stand, two bytes each. -/
theorem pidsAt_flatMap (start : List Byte) (pids : List (Byte × Byte)) (rest : List Byte) :
    pidsAt (start ++ (pids.flatMap (fun x => [x.1, x.2]) ++ rest)) start.length pids.length =
      pids.map (fun x => numberOf [x.1, x.2]) := by
  induction pids generalizing start with
  | nil => rfl
  | cons x pids ih =>
    have shifted := ih (start ++ [x.1, x.2])
    rw [List.append_assoc, List.length_append] at shifted
    rw [List.length_cons, pidsAt_succ, List.map_cons]
    exact congrArg₂ List.cons (word16At_append start _ x) shifted

/-! ## A list as it is stored (R116) -/

theorem mem_insertPid {x y : Nat} {pids : List Nat} : y ∈ insertPid x pids ↔ y = x ∨ y ∈ pids := by
  induction pids with
  | nil => simp [insertPid]
  | cons z rest ih =>
    unfold insertPid
    split
    · simp
    · split
      · next same => simp [same]
      · simp only [List.mem_cons, ih]; tauto

theorem ascending_insertPid (x : Nat) {pids : List Nat} (ascending : pids.Pairwise (fun y z => y < z)) :
    (insertPid x pids).Pairwise (fun y z => y < z) := by
  induction pids with
  | nil => simp [insertPid]
  | cons z rest ih =>
    obtain ⟨above, rest_ascending⟩ := List.pairwise_cons.mp ascending
    unfold insertPid
    split
    · next below =>
      refine List.pairwise_cons.mpr ⟨fun y hy => ?_, ascending⟩
      rcases List.mem_cons.mp hy with rfl | hy
      · exact below
      · exact below.trans (above y hy)
    · split
      · exact ascending
      · next notBelow notSame =>
        refine List.pairwise_cons.mpr ⟨fun y hy => ?_, ih rest_ascending⟩
        rcases mem_insertPid.mp hy with rfl | hy
        · omega
        · exact above y hy

theorem storedPids_ascending (pids : List Nat) : (storedPids pids).Pairwise (fun x y => x < y) := by
  unfold storedPids
  induction pids.filter (fun x => x ≠ 8191) with
  | nil => exact List.Pairwise.nil
  | cons x rest ih => exact ascending_insertPid x ih

theorem mem_storedPids {x : Nat} {pids : List Nat} : x ∈ storedPids pids ↔ x ∈ pids ∧ x ≠ 8191 := by
  have folded : ∀ items : List Nat, x ∈ items.foldr insertPid [] ↔ x ∈ items := fun items => by
    induction items with
    | nil => rfl
    | cons y rest ih => rw [List.foldr_cons, mem_insertPid, ih, List.mem_cons]
  rw [storedPids, folded]
  simp

/-- The list at a place of a body fails R116. -/
def PidsFail (body : List Byte) (place : Nat) : Prop :=
  16 < byteAt body place ∨ ∃ x ∈ pidsAt body (place + 1) (byteAt body place), 8191 < x

theorem readPids_eq_none : readPids body place = none ↔ PidsFail body place := by
  unfold readPids PidsFail
  rw [or_iff_not_imp_left, Nat.not_lt]
  simp

theorem readPids_eq_some (h : readPids body place = some pids) :
    pids = storedPids (pidsAt body (place + 1) (byteAt body place)) := by
  unfold readPids at h
  simp only at h
  split at h
  · cases h
  · exact (Option.some.inj h).symm

/-! ## FILTER_SET (R132) -/

theorem filterSet_of_range (h : 5 < byteAt body 0 ∨ readPids body 1 = none) :
    filterSet p body s = respond p .range [] s := by
  unfold filterSet
  rcases h with range | fails
  · have none : finOf 6 (byteAt body 0) = none := dif_neg (by omega)
    rw [none]
  · rw [fails]
    cases finOf 6 (byteAt body 0) <;> rfl

theorem filterSet_of_absent (id : byteAt body 0 = i.val) (reads : readPids body 1 = some pids) (absent : s.sub p i = none) :
    filterSet p body s = respond p .noSuch [] s := by
  simp only [filterSet, finOf_of_byteAt id, reads, absent]

theorem filterSet_of_found (id : byteAt body 0 = i.val) (reads : readPids body 1 = some pids) (found : s.sub p i = some u) :
    filterSet p body s = respond p .ok (encPids pids) (s.setSub p i (some { u with pids := pids })) := by
  simp only [filterSet, finOf_of_byteAt id, reads, found]

/-- Settles O34: a list is read by its places, kept ascending by insertion, and an accepted one changes its record alone. -/
theorem filterSetStoresTheList : Obligations.FilterSetStoresTheList := by
  refine ⟨pidsAt_flatMap, fun body place => ⟨readPids_eq_none, fun pids reads => ?_⟩, fun p body s asks => ?_⟩
  · rw [readPids_eq_some reads]
    exact ⟨storedPids_ascending _, fun x => mem_storedPids⟩
  · obtain ⟨settled, attached, granted⟩ := asks
    have run : exec (.filterSet p) s = .next (settle (filterSet p body (markServed p s))) :=
      exec_admission_of_granted (c := (.filterSet, .filterSet p)) (by simp [admissionCommands]) granted
    refine ⟨fun range => ?_, fun i pids id reads => ⟨fun absent => ?_, fun u found => ?_⟩⟩
    · rw [run, filterSet_of_range range, settle_respond_served settled attached]
    · rw [run, filterSet_of_absent (s := markServed p s) id reads absent, settle_respond_served settled attached]
    · rw [run, filterSet_of_found (s := markServed p s) id reads found]
      exact congrArg Host.Outcome.next
        (settle_respond ((markServed p s).setSub p i (some { u with pids := pids })) settled p attached .ok (encPids pids))

end Sys2Proof.Machine
end

section
/-! The lanes' state reports at the admission controller (R119, R120, R141). -/

namespace Sys2Proof.Machine

variable {s t : State} {p q : Port} {i : SubId} {u : Sub} {l : LaneId} {kind : LaneKind}

/-! ## One subscription's state derived again (R120) -/

/-- The record stored and the notice raised where the state is another. -/
def rederivedAs (p : Port) (i : SubId) (u : Sub) (d : SubState) (s : State) : State :=
  if d = u.reported then s.setSub p i (some (reportedAs u d))
  else raiseNotice (.streamState i (some (d, u.lane, u.charge))) p (s.setSub p i (some (reportedAs u d)))

theorem rederive_of_found (found : s.sub p i = some u) (busy : (s.admLane u.lane).seen ≠ .free) :
    rederive false p i s = rederivedAs p i u (rowFor (s.port p).link u.overload u.liveMark (s.admLane u.lane).seen) s := by
  unfold rederive rederivedAs
  simp only [found, derivedState_eq_rowFor busy]
  split
  · next changed =>
    rw [if_neg (by simpa using changed)]
    rfl
  · next same =>
    rw [if_pos (by simpa using same)]
    rfl

@[simp] theorem raiseNotice_adm (n : Notice) : (raiseNotice n p s).adm = s.adm := (touches_raiseNotice s n p).same .adm (by decide)

@[simp] theorem rederivedAs_adm (d : SubState) : (rederivedAs p i u d s).adm = (s.setSub p i (some (reportedAs u d))).adm := by
  unfold rederivedAs
  split
  · rfl
  · exact raiseNotice_adm _

theorem rederivedAs_admPort (d : SubState) :
    (rederivedAs p i u d s).admPort p =
      { s.admPort p with subs := Tab.put (s.admPort p).subs i (some (reportedAs u d)) } := by
  have stored := State.setSub_admPort s p p i (some (reportedAs u d))
  rw [if_pos rfl] at stored
  rw [← stored, State.admPort, rederivedAs_adm]
  rfl

theorem rederivedAs_port (d : SubState) :
    (rederivedAs p i u d s).port p =
      if d = u.reported then s.port p else (s.port p).raised (.streamState i (some (d, u.lane, u.charge))) := by
  unfold rederivedAs
  split
  · rfl
  · rw [raiseNotice_port, if_pos rfl]
    rfl

/-! ## Operations that each keep to their own port -/

/-- Two states that agree on a port's records and on what the admission controller holds of the lanes. -/
structure SameAt (q : Port) (s t : State) : Prop where
  admPort : t.admPort q = s.admPort q
  port : t.port q = s.port q
  lanes : t.adm.lanes = s.adm.lanes

theorem SameAt.refl (q : Port) (s : State) : SameAt q s s := ⟨rfl, rfl, rfl⟩

theorem SameAt.trans {v : State} (first : SameAt q s t) (second : SameAt q t v) : SameAt q s v :=
  ⟨second.admPort.trans first.admPort, second.port.trans first.port, second.lanes.trans first.lanes⟩

theorem SameAt.sub (same : SameAt q s t) (i : SubId) : t.sub q i = s.sub q i := by
  simp only [State.sub, same.admPort]

theorem SameAt.admLane (same : SameAt q s t) (l : LaneId) : t.admLane l = s.admLane l := by
  simp only [State.admLane, same.lanes]

section
variable {f : Port × SubId → State → State} {items : List (Port × SubId)}

theorem forEach_sameAt (own : ∀ k t q, k.1 ≠ q → SameAt q t (f k t)) (apart : ∀ k ∈ items, k.1 ≠ q) :
    SameAt q s (forEach items f s) :=
  forEach_keeps (P := SameAt q s) items (fun k hk t same => same.trans (own k t q (apart k hk))) (SameAt.refl q s)

/-- Where each port has one item at most, a port ends as its item left it, which met it as it was. -/
theorem forEach_at_own (own : ∀ k t q, k.1 ≠ q → SameAt q t (f k t)) {k : Port × SubId} (mem : k ∈ items)
    (once : items.Pairwise (fun k k' => k.1 ≠ k'.1)) :
    ∃ t, SameAt k.1 s t ∧ SameAt k.1 (f k t) (forEach items f s) := by
  induction items generalizing s with
  | nil => cases mem
  | cons k' rest ih =>
    obtain ⟨apart, once⟩ := List.pairwise_cons.mp once
    rcases List.mem_cons.mp mem with rfl | mem
    · exact ⟨s, SameAt.refl _ s, forEach_sameAt own fun k' hk => (apart k' hk).symm⟩
    · obtain ⟨t, before, after⟩ := ih (s := f k' s) mem once
      exact ⟨t, (own k' s k.1 (apart k mem)).trans before, after⟩

end

/-! ## A lane's subscriptions derived again (R120, R141) -/

@[simp] theorem rederive_admLanes (always : Bool) : (rederive always p i s).adm.lanes = s.adm.lanes := by
  unfold rederive
  split
  · rfl
  · split
    · rfl
    · simp only
      split
      · rw [raiseNotice_adm]
        rfl
      · rfl

theorem rederive_sameAt (always : Bool) (other : p ≠ q) : SameAt q s (rederive always p i s) := by
  refine ⟨?_, ?_, rederive_admLanes always⟩
  · unfold rederive
    split
    · rfl
    · split
      · rfl
      · simp only
        split
        · rw [State.admPort, raiseNotice_adm]
          exact (State.setSub_admPort ..).trans (if_neg other)
        · exact (State.setSub_admPort ..).trans (if_neg other)
  · unfold rederive
    split
    · rfl
    · split
      · rfl
      · simp only
        split
        · rw [raiseNotice_port, if_neg other]
          rfl
        · rfl

/-- The keys of the subscriptions on a lane. -/
def keysOn (s : State) (l : LaneId) : List (Port × SubId) :=
  allKeys.filter (fun k => decide ((s.sub k.1 k.2).map Sub.lane = some l))

theorem mem_keysOn {k : Port × SubId} : k ∈ keysOn s l ↔ ∃ u, s.sub k.1 k.2 = some u ∧ u.lane = l := by
  simp [keysOn, mem_allKeys]

theorem keysOn_once (one : OneSubPerPort s l) : (keysOn s l).Pairwise (fun k k' => k.1 ≠ k'.1) := by
  refine (nodup_allKeys.filter _).imp_of_mem fun {k k'} hk hk' distinct samePort => distinct ?_
  obtain ⟨u, found, onLane⟩ := mem_keysOn.mp hk
  obtain ⟨v, found', onLane'⟩ := mem_keysOn.mp hk'
  rw [← samePort] at found'
  exact Prod.ext samePort (one k.1 k.2 k'.2 u v found found' onLane onLane')

@[simp] theorem rederiveLane_admLanes : (rederiveLane l s).adm.lanes = s.adm.lanes :=
  forEach_keeps (P := fun t => t.adm.lanes = s.adm.lanes) _ (fun _ _ _ same => (rederive_admLanes false).trans same) rfl

theorem rederiveLane_lastServed : (rederiveLane l s).adm.lastServed = s.adm.lastServed :=
  forEach_lastServed (fun (k : Port × SubId) => rederive_lastServed false k.1 k.2) (keysOn s l) s

theorem rederiveLane_elsewhere (elsewhere : ∀ i u, s.sub p i = some u → u.lane ≠ l) : SameAt p s (rederiveLane l s) := by
  refine forEach_sameAt (fun k t q other => rederive_sameAt false other) fun k mem samePort => ?_
  obtain ⟨u, found, onLane⟩ := mem_keysOn.mp mem
  exact elsewhere k.2 u (samePort ▸ found) onLane

theorem rederiveLane_at (one : OneSubPerPort s l) (found : s.sub p i = some u) (onLane : u.lane = l)
    (busy : (s.admLane l).seen ≠ .free) :
    let d := rowFor (s.port p).link u.overload u.liveMark (s.admLane l).seen
    (rederiveLane l s).admPort p =
        { s.admPort p with subs := Tab.put (s.admPort p).subs i (some (reportedAs u d)) } ∧
      (rederiveLane l s).port p =
        if d = u.reported then s.port p else (s.port p).raised (.streamState i (some (d, l, u.charge))) := by
  subst onLane
  obtain ⟨t, before, admPort, port, -⟩ := forEach_at_own (f := fun k => rederive false k.1 k.2) (s := s) (k := (p, i))
    (fun k t q other => rederive_sameAt false other) (mem_keysOn.mpr ⟨u, found, rfl⟩) (keysOn_once one)
  have row := rederive_of_found ((before.sub i).trans found) ((congrArg AdmLane.seen (before.admLane u.lane)).trans_ne busy)
  simp only [row, before.admLane, before.port, rederivedAs_admPort, rederivedAs_port, before.admPort] at admPort port
  exact ⟨admPort, port⟩

/-! ## LANE_STATE_CHANGE and CHANGE_TO_FREE (R141) -/

theorem exec_laneStateChange {rest : List AdmMsg} (waiting : s.mail.toAdm = .state l kind :: rest) :
    exec (.laneStateChange l) s = .next (takeReport (.state l kind) s) := by
  have run : exec (.laneStateChange l) s = execLaneStateChange l s := rfl
  simp only [run, execLaneStateChange, State.admMsg, waiting, List.head?_cons, if_true]

theorem exec_changeToFree {rest : List AdmMsg} (waiting : s.mail.toAdm = .toFree l :: rest) :
    exec (.changeToFree l) s = .next (takeReport (.toFree l) s) := by
  have run : exec (.changeToFree l) s = execChangeToFree l s := rfl
  simp only [run, execChangeToFree, State.admMsg, waiting, List.head?_cons, if_true]

/-- The state in which a lane's subscriptions are derived again: the report taken and the lane's state copied. -/
def laneSeen (l : LaneId) (kind : LaneKind) (s : State) : State :=
  (popAdmission s).modAdmLane l (fun x => { x with seen := kind })

@[simp] theorem laneSeen_admLane : (laneSeen l kind s).admLane l = { s.admLane l with seen := kind } := by
  simp [laneSeen, State.modAdmLane, State.admLane, State.setAdmLane, popAdmission, State.setMail, State.setAdm]

theorem takeReport_state : takeReport (.state l kind) s = settle (rederiveLane l (laneSeen l kind s)) := rfl

theorem takeState_lanes : (takeReport (.state l kind) s).adm.lanes = Tab.put s.adm.lanes l { s.admLane l with seen := kind } := by
  rw [takeReport_state, settle_adm, rederiveLane_admLanes]
  rfl

theorem touches_rederiveLane_settled : Touches [.adm, .ports] s (settle (rederiveLane l s)) :=
  (touches_rederiveLane _ l).trans ((touches_settle _).mono (by decide))

theorem takeState_mail {rest : List AdmMsg} (waiting : s.mail.toAdm = .state l kind :: rest) :
    (takeReport (.state l kind) s).mail = { s.mail with toAdm := rest } := by
  rw [takeReport_state, touches_rederiveLane_settled.same .mail (by decide)]
  show { s.mail with toAdm := s.mail.toAdm.tail } = _
  rw [waiting]
  rfl

/-- The parts that a report to the admission controller touches. -/
theorem Touches.eq_of_report (h : Touches [.adm, .ports, .mail] s t) :
    t = { s with adm := t.adm, ports := t.ports, mail := t.mail } := by
  refine State.ext_same fun part => ?_
  have same := h part
  cases part with
  | adm | ports | mail => rfl
  | _ => exact same (by decide)

theorem takeState_port (q : Port) :
    (takeReport (.state l kind) s).port q =
      ((rederiveLane l (laneSeen l kind s)).port q).arbitrated (s.queue q) := by
  have pool : (rederiveLane l (laneSeen l kind s)).pool = s.pool := (touches_rederiveLane _ l).same .pool (by decide)
  rw [takeReport_state, settle_port, queue_of_pool pool]

/-- The subscriptions of a lane are derived again each at its own port. -/
theorem stateReport_moves {rest : List AdmMsg} (settled : s.Settled) (busy : kind ≠ .free)
    (waiting : s.mail.toAdm = .state l kind :: rest) (one : OneSubPerPort s l) :
    let t := takeReport (.state l kind) s
    t.adm.lanes = Tab.put s.adm.lanes l { s.admLane l with seen := kind } ∧ t.adm.lastServed = s.adm.lastServed ∧
      (∀ p, (∀ i u, s.sub p i = some u → u.lane ≠ l) → t.admPort p = s.admPort p ∧ t.port p = s.port p) ∧
      (∀ p i u, s.sub p i = some u → u.lane = l →
        let d := rowFor (s.port p).link u.overload u.liveMark kind
        t.admPort p = { s.admPort p with subs := Tab.put (s.admPort p).subs i (some (reportedAs u d)) } ∧
        t.port p = if d = u.reported then s.port p
          else (s.port p).noticed (.streamState i (some (d, l, u.charge)))) ∧
      t = { s with adm := t.adm, ports := t.ports, mail := { s.mail with toAdm := rest } } := by
  have admPort : ∀ p, (takeReport (.state l kind) s).admPort p = (rederiveLane l (laneSeen l kind s)).admPort p :=
    fun p => by rw [takeReport_state, State.admPort, settle_adm]; rfl
  refine ⟨takeState_lanes, ?_, fun p elsewhere => ?_, fun p i u found onLane => ?_, ?_⟩
  · rw [takeReport_state, settle_adm, rederiveLane_lastServed]
    rfl
  · obtain ⟨admSame, portSame, -⟩ := rederiveLane_elsewhere (s := laneSeen l kind s) elsewhere
    refine ⟨(admPort p).trans admSame, ?_⟩
    rw [takeState_port, portSame]
    exact arbitrated_settled s settled p
  · obtain ⟨admAt, portAt⟩ := rederiveLane_at (s := laneSeen l kind s) one found onLane
      (by rw [laneSeen_admLane]; exact busy)
    rw [laneSeen_admLane] at admAt portAt
    refine ⟨(admPort p).trans admAt, ?_⟩
    rw [takeState_port, portAt]
    refine (apply_ite (fun r : PortRec => r.arbitrated (s.queue p)) ..).trans (if_congr Iff.rfl ?_ ?_)
    · exact arbitrated_settled s settled p
    · exact arbitrated_raised (settled.rests p) _
  · rw [← takeState_mail waiting]
    exact (touches_takeReport s _).eq_of_report

/-- Settles O37: the rows of R119, then a state report through `stateReport_moves`, then the record of a FREE lane. -/
theorem laneReportsMoveTheSubscriptions : Obligations.LaneReportsMoveTheSubscriptions := by
  refine ⟨fun s p u busy => derivedState_eq_rowFor busy, fun l kind rest s settled busy waiting one => ?_,
    fun l rest s waiting => ?_⟩
  · exact ⟨_, exec_laneStateChange waiting, stateReport_moves settled busy waiting one⟩
  · rw [exec_changeToFree waiting]
    show Host.Outcome.next (recordFree l (s.setMail { s.mail with toAdm := s.mail.toAdm.tail })) = _
    rw [waiting]
    rfl

end Sys2Proof.Machine
end

section
/-! SUBSCRIBE without a move (R127 to R129): the checks it passes, the lane it shares or takes, and its next state. -/

namespace Sys2Proof.Machine

variable {s v : State} {l : LaneId} {p : Port} {b : SubscribeBody} {e : PlanEntry} {i : SubId} {x : PlanIndex}
  {rate : Option Nat} {charge : Nat} {state : SubState} {choice : LaneChoice} {body : List Byte}

/-! ## The checks (R125 to R128) -/

/-- The first three checks as the model makes them (R124, R125). -/
def PassesFirst (s : State) (p : Port) (b : SubscribeBody) (e : PlanEntry) (i : SubId) : Prop :=
  s.entry b.index = some e ∧ s.subOn p b.index = none ∧ s.freeId p = some i

theorem passesFirst_of_eligible (h : Eligible s p body b e i) : PassesFirst s p b e i :=
  ⟨h.entry, subOn_eq_none h.fresh, freeId_of_least h.free h.lowest⟩

theorem eligible_asked (h : Eligible s p body b e i) : (s.port p).requests ≠ [] :=
  answered_requests_ne (headBody_of_granted h.asks.2.2)

theorem chargeFor_of_entry (entry : s.entry x = some e) :
    s.chargeFor x rate = linkLoad (rate.getD (provisionalRate e.bandwidth)) := by
  unfold State.chargeFor State.bandwidth
  rw [entry]
  rfl

theorem windowCheck_stay {flagged : Bool} (inside : fits s.fe.window e = true) : s.windowCheck e flagged = .stay :=
  if_pos inside

/-- What the fifth and sixth checks answer for a lane that is found (R127, R128). -/
theorem laneAndCapacity_accepts {move : Option Nat} (chosen : s.chooseLane x move = some choice)
    (entry : s.entry x = some e) (rated : s.subscribeRate x choice = rate)
    (room : (s.admPort p).committed + linkLoad (rate.getD (provisionalRate e.bandwidth)) ≤ (s.admPort p).capacity) :
    s.laneAndCapacity p i x move = .accept i choice move rate (linkLoad (rate.getD (provisionalRate e.bandwidth))) := by
  have fits : (s.admPort p).fits (linkLoad (rate.getD (provisionalRate e.bandwidth))) = true := decide_eq_true room
  unfold State.laneAndCapacity
  simp only [chosen, rated, chargeFor_of_entry entry, fits, if_true]

/-- The checks before the fifth one passed without a move: the fifth and sixth decide. -/
theorem checkSubscribe_stay (first : PassesFirst s p b e i) (inside : fits s.fe.window e = true) :
    s.checkSubscribe p b = s.laneAndCapacity p i b.index none := by
  obtain ⟨entry, fresh, id⟩ := first
  unfold State.checkSubscribe
  simp only [entry, fresh, id, windowCheck_stay inside]

/-! ## The lane that is chosen without a move (R127) -/

theorem holdingLane_of_unique (busy : (s.lane l).state ≠ .free) (holds : (s.lane l).channel = some x)
    (only : ∀ k, (s.lane k).state ≠ .free → (s.lane k).channel = some x → k = l) : s.holdingLane x = some l := by
  refine find?_eq_some_of_least (by decide) (mem_allLanes l)
    (Bool.and_eq_true_iff.mpr ⟨laneBusy_iff.mpr busy, decide_eq_true holds⟩) fun k below => ?_
  refine Bool.eq_false_iff.mpr fun found => ne_of_lt below ?_
  obtain ⟨busyK, holdsK⟩ := Bool.and_eq_true_iff.mp found
  exact only k (laneBusy_iff.mp busyK) (of_decide_eq_true holdsK)

theorem chooseLane_share {move : Option Nat} (holds : s.holdingLane x = some l) :
    s.chooseLane x move = some (.share l) := by
  rw [State.chooseLane, holds]

theorem countsFree_none : s.countsFree none l = true ↔ (s.lane l).state = .free := by
  show (!s.laneBusy l) = true ↔ _
  rw [Bool.not_eq_true', ← Bool.not_eq_true, laneBusy_iff, not_not]

theorem chooseLane_stay_free (unheld : s.holdingLane x = none) (free : (s.lane l).state = .free)
    (lowest : ∀ k, k < l → (s.lane k).state ≠ .free) : s.chooseLane x none = some (.free l) := by
  have least := find?_eq_some_of_least (by decide) (mem_allLanes l) (countsFree_none.mpr free) fun k below =>
    Bool.eq_false_iff.mpr fun counts => lowest k below (countsFree_none.mp counts)
  rw [State.chooseLane, unheld]
  simp only [least]

theorem lingering_iff : s.lingering l = true ↔ (s.lane l).state ≠ .free ∧ (s.admLane l).share = 0 := by
  rw [State.lingering, Bool.and_eq_true, laneBusy_iff, decide_eq_true_eq]

theorem oldestLinger_of_oldest (lingers : s.lingering l = true)
    (oldest : ∀ k, (s.admLane k).share = 0 → k ≠ l →
      s.lingerAge k < s.lingerAge l ∨ (s.lingerAge k = s.lingerAge l ∧ l < k)) : s.oldestLinger = some l := by
  rw [oldestLinger_eq]
  exact foldl_olderOf (List.Pairwise.filter _ (by decide)) (List.mem_filter.mpr ⟨mem_allLanes l, lingers⟩)
    (fun k hk => oldest k (lingering_iff.mp (List.mem_filter.mp hk).2).2) (fun b hb => nomatch hb)

theorem chooseLane_stay_reclaim (unheld : s.holdingLane x = none) (full : ∀ k, (s.lane k).state ≠ .free)
    (unshared : (s.admLane l).share = 0)
    (oldest : ∀ k, (s.admLane k).share = 0 → k ≠ l →
      s.lingerAge k < s.lingerAge l ∨ (s.lingerAge k = s.lingerAge l ∧ l < k)) :
    s.chooseLane x none = some (.reclaim l) := by
  have taken : allLanes.find? (s.countsFree none) = none :=
    List.find?_eq_none.mpr fun k _ counts => full k (countsFree_none.mp counts)
  have found := oldestLinger_of_oldest (lingering_iff.mpr ⟨full l, unshared⟩) oldest
  rw [State.chooseLane, unheld]
  simp only [taken, found]
  rfl

theorem subscribeRate_taking (reclaimed : Bool) (rated : MemoRate s x rate) :
    s.subscribeRate x (.taking reclaimed l) = rate := by
  refine Eq.trans ?_ (memoRate_eq rated)
  cases reclaimed <;> rfl

/-! ## Behind the lane (R129) -/

/-- A new subscription's first state (R119): its port is ATTACHED, and its lane's state decides. -/
theorem derivedState_draft (link : (s.port p).link = .attached) :
    (s.derivedState p (newSub b l charge .pending)).getD .pending = firstState (s.admLane l).seen := by
  have draft : s.derivedState p (newSub b l charge .pending) =
      match (s.admLane l).seen with
      | .acquire => some .pending
      | .locked => some .live
      | .coast => some .live
      | .holdoff => some .noSignal
      | .free => none := by
    unfold State.derivedState
    rw [link]
    rfl
  rw [draft]
  cases (s.admLane l).seen <;> rfl

/-- What an admitted SUBSCRIBE does behind its lane: its record, answer and notice, the moves toward the target, and the
downlinks (R129, R175). -/
def joinEnd (p : Port) (b : SubscribeBody) (i : SubId) (l : LaneId) (charge : Nat) (rate : Option Nat) (state : SubState)
    (before : Target) (v : State) : State :=
  settle (retarget before (raiseNotice (.streamState i (some (state, l, charge))) p
    (respond p .ok (admittedFields i l charge rate v.fe.window b.pids) (enrollSub p i (created b l charge state) v))))

theorem settle_createSub_stay (link : (s.port p).link = .attached) (lane : choice.lane = l) :
    settle (createSub p b i choice none rate charge s) =
      joinEnd p b i l charge rate (firstState ((takeLane choice b.index rate s).admLane l).seen) s.target
        (takeLane choice b.index rate s) := by
  have attached : ((takeLane choice b.index rate s).port p).link = .attached := by rw [takeLane_port, link]
  unfold createSub joinEnd
  simp only [lane, derivedState_draft attached, admittedFields, List.append_assoc]
  rfl

/-- The answer and then the notice leave a settled port as the notice and then the answer would. -/
theorem arbitrated_responded_raised {r : PortRec} {queue : List Entry} (rests : r.Rests queue)
    (attached : r.link = .attached) (asked : r.requests ≠ []) (status : Status) (fields : List Byte) (n : Notice) :
    ((r.responded status fields).raised n).arbitrated queue = r.answeredNoticed status fields n := by
  have link : (r.responded status fields).link = .attached := by
    unfold PortRec.responded
    split <;> exact attached
  have notices : (r.responded status fields).notices = r.notices := by
    unfold PortRec.responded
    split <;> rfl
  rw [raised_of_attached n link, notices, arbitrated_responded rests attached asked]
  rfl

section
variable (touched : Touches [.lanes, .adm, .mail] s v)
include touched

theorem joinEnd_fe (busy : (v.lane l).state ≠ .free) :
    (joinEnd p b i l charge rate state s.target v).fe = steered s .active := by
  generalize hu : joinEnd p b i l charge rate state s.target v = t
  have admitted : Touches [.adm, .ports] v (raiseNotice (.streamState i (some (state, l, charge))) p
      (respond p .ok (admittedFields i l charge rate v.fe.window b.pids) (enrollSub p i (created b l charge state) v))) :=
    (((touches_enrollSub p i _ v).mono (by decide)).trans ((touches_respond _ p _ _).mono (by decide))).trans
      ((touches_raiseNotice _ _ p).mono (by decide))
  have lane := admitted.same .lanes (by decide)
  have target : t.target = .active := by
    subst hu
    refine (settle_retarget_target _ _).trans (target_eq_active.mpr ⟨l, ?_⟩)
    rw [State.lane, show _ = v.lanes from lane]
    exact busy
  have fe := settle_retarget_fe (Eq.trans (admitted.same .fe (by decide)) (touched.same .fe (by decide)))
    (Eq.trans (admitted.same .now (by decide)) (touched.same .now (by decide)))
  unfold joinEnd at hu
  rw [hu, target] at fe
  exact fe

theorem joinEnd_port (settled : s.Settled) (attached : (s.port p).link = .attached) (asked : (s.port p).requests ≠ [])
    (q : Port) :
    (joinEnd p b i l charge rate state s.target v).port q =
      (s.ports.put p ((s.port p).answeredNoticed .ok (admittedFields i l charge rate s.fe.window b.pids)
        (.streamState i (some (state, l, charge))))).get q := by
  have window : v.fe.window = s.fe.window := congrArg FrontEnd.window (touched.same .fe (by decide))
  have ports : ∀ r, (enrollSub p i (created b l charge state) v).port r = s.port r := fun r =>
    congrArg (PerPort.get · r)
      (Eq.trans ((touches_enrollSub p i _ v).same .ports (by decide)) (touched.same .ports (by decide)))
  have admitted := ((touches_enrollSub p i (created b l charge state) v).mono (more := [.adm, .ports]) (by decide)).trans
    (((touches_respond _ p .ok (admittedFields i l charge rate v.fe.window b.pids)).mono (by decide)).trans
      ((touches_raiseNotice _ (.streamState i (some (state, l, charge))) p).mono (by decide)))
  have pool := Eq.trans (admitted.same .pool (by decide)) (touched.same .pool (by decide))
  unfold joinEnd
  rw [settle_retarget_port, queue_of_pool pool, raiseNotice_port, respond_port, respond_port, if_pos rfl, ports, ports,
    window, PerPort.get_put]
  split
  · next same =>
    subst same
    exact arbitrated_responded_raised (settled.rests p) attached asked _ _ _
  · exact arbitrated_settled s settled q

omit touched in
theorem joinEnd_adm (same : SameAdmPorts s v) :
    (joinEnd p b i l charge rate state s.target v).adm =
      { lanes := v.adm.lanes
        ports := s.adm.ports.put p { s.admPort p with
          committed := (s.admPort p).committed + charge
          subs := Tab.put (s.admPort p).subs i (some (created b l charge state)) }
        lastServed := s.adm.lastServed } := by
  have kept : (joinEnd p b i l charge rate state s.target v).adm = (enrollSub p i (created b l charge state) v).adm :=
    Eq.trans (touches_retarget_settle.same .adm (by decide))
      (Eq.trans ((touches_raiseNotice _ _ p).same .adm (by decide)) ((touches_respond _ p _ _).same .adm (by decide)))
  have ports := enrollSub_ports p i (created b l charge state) v
  have admPort : v.admPort p = s.admPort p := congrArg (PerPort.get · p) same.1
  rw [same.1, admPort] at ports
  have last : (enrollSub p i (created b l charge state) v).adm.lastServed = s.adm.lastServed := same.2
  rw [kept]
  exact congrArg₂ (Admission.mk v.adm.lanes) ports last

/-- An admitted SUBSCRIBE without a move, whole. -/
theorem joinEnd_eq (admPorts : SameAdmPorts s v) (busy : (v.lane l).state ≠ .free) (settled : s.Settled)
    (attached : (s.port p).link = .attached) (asked : (s.port p).requests ≠ []) :
    joinEnd p b i l charge rate state s.target v =
      { s with
        lanes := v.lanes
        fe := steered s .active
        adm := { lanes := v.adm.lanes
                 ports := (enrolled s p i (created b l charge state) (v.admLane l)).ports
                 lastServed := s.adm.lastServed }
        ports := s.ports.put p ((s.port p).answeredNoticed .ok (admittedFields i l charge rate s.fe.window b.pids)
          (.streamState i (some (state, l, charge))))
        mail := v.mail } := by
  have behind : Touches [.fe, .adm, .ports] v (joinEnd p b i l charge rate state s.target v) :=
    (((touches_enrollSub p i _ v).mono (by decide)).trans (((touches_respond _ p _ _).mono (by decide)).trans
      ((touches_raiseNotice _ _ p).mono (by decide)))).trans (touches_retarget_settle.mono (by decide))
  refine State.ext_same fun part => ?_
  have same := ((touched.mono (more := [.fe, .lanes, .adm, .ports, .mail]) (by decide)).trans (behind.mono (by decide))) part
  cases part with
  | fe => exact joinEnd_fe touched busy
  | adm => exact joinEnd_adm admPorts
  | ports => exact PerPort.ext_get (joinEnd_port touched settled attached asked)
  | lanes => exact behind.same .lanes (by decide)
  | mail => exact behind.same .mail (by decide)
  | _ => exact same (by decide)

end

/-! ## The command -/

theorem exec_subscribe (granted : s.granted p .subscribe = some body) :
    exec (.subscribe p) s = .next (settle (subscribe p body (markServed p s))) :=
  exec_admission_of_granted (c := (.subscribe, .subscribe p)) (by simp [admissionCommands]) granted

theorem exec_subscribe_accepted {move : Option Nat} (granted : s.granted p .subscribe = some body)
    (reads : SubscribeBody.read body = some b)
    (passed : (markServed p s).checkSubscribe p b = .accept i choice move rate charge) :
    exec (.subscribe p) s = .next (settle (createSub p b i choice move rate charge (markServed p s))) := by
  rw [exec_subscribe granted]
  unfold subscribe
  simp only [reads, passed]

/-- A SUBSCRIBE admitted without a move ends in what `joinEnd_eq` says of the state in which its lane is taken. -/
theorem exec_subscribe_stay (eligible : Eligible s p body b e i) (inside : fits s.fe.window e = true)
    (chosen : s.chooseLane b.index none = some choice) (rated : s.subscribeRate b.index choice = rate)
    (room : (s.admPort p).committed + linkLoad (rate.getD (provisionalRate e.bandwidth)) ≤ (s.admPort p).capacity)
    (lane : choice.lane = l) (taken : takeLane choice b.index rate (markServed p s) = v)
    (same : SameAdmPorts (markServed p s) v) (busy : (v.lane l).state ≠ .free) :
    let charge := linkLoad (rate.getD (provisionalRate e.bandwidth))
    let state := firstState (v.admLane l).seen
    exec (.subscribe p) s = .next { s with
      lanes := v.lanes
      fe := steered s .active
      adm := { enrolled s p i (created b l charge state) (v.admLane l) with lanes := v.adm.lanes }
      ports := s.ports.put p ((s.port p).answeredNoticed .ok (admittedFields i l charge rate s.fe.window b.pids)
        (.streamState i (some (state, l, charge))))
      mail := v.mail } := by
  obtain ⟨settled, attached, granted⟩ := eligible.asks
  have first := passesFirst_of_eligible eligible
  have passed : (markServed p s).checkSubscribe p b = .accept i choice none rate _ :=
    (checkSubscribe_stay (s := markServed p s) first inside).trans
      (laneAndCapacity_accepts (s := markServed p s) chosen eligible.entry rated room)
  rw [exec_subscribe_accepted granted eligible.reads passed]
  subst taken
  have ended := settle_createSub_stay (s := markServed p s) (b := b) (i := i) (rate := rate)
    (charge := linkLoad (rate.getD (provisionalRate e.bandwidth))) attached lane
  have asked := eligible_asked eligible
  exact congrArg Host.Outcome.next (ended.trans
    (joinEnd_eq (s := markServed p s) (touches_takeLane _ _ _ _) same busy settled attached asked))

/-! ## The lane that is shared or taken, in its tables -/

theorem put_of_lane {t : State} {y : Lane} (h : ∀ k, t.lane k = if l = k then y else s.lane k) :
    t.lanes = Tab.put s.lanes l y :=
  Tab.ext fun k => (h k).trans (Tab.get_put ..).symm

theorem put_of_admLane {t : State} {y : AdmLane} (h : ∀ k, t.admLane k = if l = k then y else s.admLane k) :
    t.adm.lanes = Tab.put s.adm.lanes l y :=
  Tab.ext fun k => (h k).trans (Tab.get_put ..).symm

theorem lane_eq_of_lanes {t : State} {y : Lane} (h : t.lanes = Tab.put s.lanes l y) : t.lane l = y := by
  rw [State.lane, h, Tab.get_put, if_pos rfl]

theorem admLane_eq_of_lanes {t : State} {y : AdmLane} (h : t.adm.lanes = Tab.put s.adm.lanes l y) : t.admLane l = y := by
  rw [State.admLane, h, Tab.get_put, if_pos rfl]

/-- SUBSCRIBE sharing a lane that holds the channel (R84, R129). -/
theorem exec_subscribe_share (eligible : Eligible s p body b e i) (inside : fits s.fe.window e = true)
    (busy : (s.lane l).state ≠ .free) (holds : (s.lane l).channel = some b.index)
    (only : ∀ k, (s.lane k).state ≠ .free → (s.lane k).channel = some b.index → k = l)
    (room : (s.admPort p).committed + linkLoad ((s.admLane l).rate.getD (provisionalRate e.bandwidth)) ≤
      (s.admPort p).capacity) :
    let charge := linkLoad ((s.admLane l).rate.getD (provisionalRate e.bandwidth))
    let state := firstState (s.admLane l).seen
    exec (.subscribe p) s = .next { s with
      lanes := Tab.put s.lanes l { s.lane l with lingerStart := none }
      fe := steered s .active
      adm := enrolled s p i (created b l charge state) { s.admLane l with share := (s.admLane l).share + 1 }
      ports := s.ports.put p ((s.port p).answeredNoticed .ok
        (admittedFields i l charge (s.admLane l).rate s.fe.window b.pids) (.streamState i (some (state, l, charge)))) } := by
  have lane : ∀ k, (raiseShare l (markServed p s)).lane k = if l = k then { s.lane l with lingerStart := none } else s.lane k :=
    fun k => raiseShare_lane l k (markServed p s)
  have admLane : (raiseShare l (markServed p s)).admLane l = { s.admLane l with share := (s.admLane l).share + 1 } :=
    admLane_eq_of_lanes (s := s) rfl
  have ended := exec_subscribe_stay (v := raiseShare l (markServed p s)) eligible inside
    (chooseLane_share (holdingLane_of_unique busy holds only)) rfl room rfl rfl ⟨rfl, rfl⟩
    (by rw [show (LaneChoice.share l).lane = l from rfl, lane, if_pos rfl]; exact busy)
  rw [ended]
  simp only [show (LaneChoice.share l).lane = l from rfl, admLane, put_of_lane lane]
  rfl

/-- SUBSCRIBE taking a lane for itself, FREE already or reclaimed (R127, R129). -/
theorem exec_subscribe_taking {reclaimed : Bool} (eligible : Eligible s p body b e i) (inside : fits s.fe.window e = true)
    (chosen : s.chooseLane b.index none = some (.taking reclaimed l)) (rated : MemoRate s b.index rate)
    (room : (s.admPort p).committed + linkLoad (rate.getD (provisionalRate e.bandwidth)) ≤ (s.admPort p).capacity) :
    let charge := linkLoad (rate.getD (provisionalRate e.bandwidth))
    exec (.subscribe p) s = .next { s with
      lanes := Tab.put s.lanes l (assigned b.index (s.lane l))
      fe := steered s .active
      adm := enrolled s p i (created b l charge .pending)
        { channel := some b.index, share := 1, rate := rate, seen := .acquire }
      ports := s.ports.put p ((s.port p).answeredNoticed .ok
        (admittedFields i l charge rate s.fe.window b.pids) (.streamState i (some (.pending, l, charge))))
      mail := s.mail.spoken l (fun a => a.filter (fun m => m.lane ≠ l) ++ [AdmMsg.state l .acquire])
        ((if reclaimed = true then releaseNotice (s.lane l) else []) ++ [.lookup b.index]) } := by
  have choice : (LaneChoice.taking reclaimed l).lane = l := by cases reclaimed <;> rfl
  generalize taken : takeLane (.taking reclaimed l) b.index rate (markServed p s) = v
  have lanes : v.lanes = Tab.put s.lanes l (assigned b.index (s.lane l)) :=
    put_of_lane fun k => taken ▸ takeLane_taking_lane reclaimed l k b.index rate (markServed p s)
  have admLanes : v.adm.lanes = Tab.put s.adm.lanes l { channel := some b.index, share := 1, rate, seen := .acquire } :=
    put_of_admLane fun k => taken ▸ takeLane_taking_admLane reclaimed l k b.index rate (markServed p s)
  have mail := takeLane_taking_mail reclaimed l b.index rate (markServed p s)
  have ended := exec_subscribe_stay eligible inside chosen (subscribeRate_taking reclaimed rated) room choice taken
    (taken ▸ sameAdmPorts_takeLane_taking reclaimed l b.index rate (markServed p s))
    (by rw [lane_eq_of_lanes lanes]; exact fun free => nomatch free)
  rw [taken] at mail
  rw [ended]
  simp only [admLane_eq_of_lanes admLanes, lanes, admLanes, mail]
  rfl

/-- Settles O29: the checks choose the lane the statement names, and the event ends as `exec_subscribe_stay` says. -/
theorem subscribeJoinsOrTakesALane : Obligations.SubscribeJoinsOrTakesALane := by
  intro p body b e i l s eligible inside
  constructor
  · intro busy holds only charge state room
    exact exec_subscribe_share eligible inside busy holds only room
  intro unheld rate rated charge room after reports
  have none_holds : s.holdingLane b.index = none := holdingLane_eq_none.mpr unheld
  refine ⟨fun free lowest => ?_, fun full unshared oldest x channel => ?_⟩
  · rw [exec_subscribe_taking (reclaimed := false) eligible inside (chooseLane_stay_free none_holds free lowest) rated room]
    rfl
  · have released : releaseNotice (s.lane l) = [StoreMsg.release x] := by simp [releaseNotice, channel]
    rw [exec_subscribe_taking (reclaimed := true) eligible inside
      (chooseLane_stay_reclaim none_holds full unshared oldest) rated room, if_pos rfl, released]
    rfl

end Sys2Proof.Machine
end

section
/-! SUBSCRIBE's body, and its refusals, each after the ones above it (R124 to R128, R198, R200). -/

namespace Sys2Proof.Machine

variable {s : State} {l : LaneId} {p : Port} {b : SubscribeBody} {e : PlanEntry} {i : SubId} {x : PlanIndex}
  {rate wait : Option Nat} {position : Nat} {flagged : Bool} {move : Option Nat} {choice : LaneChoice} {body : List Byte}
  {status : Status} {fields : List Byte}

/-! ## The body (R198, R200) -/

theorem finOf_eq_some {bound n : Nat} {i : Fin bound} : finOf bound n = some i ↔ i.val = n := by
  unfold finOf
  split
  · next below => exact ⟨fun h => congrArg Fin.val (Option.some.inj h).symm, fun h => congrArg some (Fin.ext h.symm)⟩
  · next above => exact ⟨(nomatch ·), fun h => absurd (h ▸ i.isLt) above⟩

theorem finOf_eq_none {bound n : Nat} (above : bound ≤ n) : finOf bound n = none := dif_neg (Nat.not_lt.mpr above)

theorem errorMode_ofCode (n : Nat) : ErrorMode.ofCode n = [ErrorMode.mark, .drop][n]? :=
  match n with
  | 0 => rfl
  | 1 => rfl
  | _ + 2 => rfl

theorem subscribeBody_read_eq_some :
    SubscribeBody.read body = some b ↔
      finOf 96 (byteAt body 0) = some b.index ∧ b.allowMove = decide (byteAt body 1 ≠ 0) ∧
        ErrorMode.ofCode (byteAt body 2) = some b.mode ∧ readPids body 3 = some b.pids := by
  obtain ⟨index, allowMove, mode, pids⟩ := b
  unfold SubscribeBody.read
  split
  · next index' mode' pids' hindex hmode hpids =>
    rw [hindex, hmode, hpids]
    simp only [Option.some.injEq, SubscribeBody.mk.injEq]
    exact ⟨fun ⟨h0, h1, h2, h3⟩ => ⟨h0, h1.symm, h2, h3⟩, fun ⟨h0, h1, h2, h3⟩ => ⟨h0, h1.symm, h2, h3⟩⟩
  · next fails =>
    exact ⟨(nomatch ·), fun ⟨hindex, _, hmode, hpids⟩ => (fails _ _ _ hindex hmode hpids).elim⟩

theorem subscribeBody_read_bytes (index flag mode : Byte) (rest : List Byte) (b : SubscribeBody) :
    SubscribeBody.read (index :: flag :: mode :: rest) = some b ↔
      b.index.val = index.toNat ∧ b.allowMove = decide (flag ≠ 0) ∧
        [ErrorMode.mark, .drop][mode.toNat]? = some b.mode ∧
        readPids (index :: flag :: mode :: rest) 3 = some b.pids := by
  have isSet : (flag.toNat ≠ 0) = (flag ≠ 0) := propext (not_congr (by rw [← BitVec.toNat_inj]; rfl))
  have first : byteAt (index :: flag :: mode :: rest) 0 = index.toNat := rfl
  have second : byteAt (index :: flag :: mode :: rest) 1 = flag.toNat := rfl
  have third : byteAt (index :: flag :: mode :: rest) 2 = mode.toNat := rfl
  rw [subscribeBody_read_eq_some, first, second, third, finOf_eq_some, errorMode_ofCode]
  simp only [isSet]

/-- The range check (R124). -/
theorem subscribeBody_read_of_range (range : 95 < byteAt body 0 ∨ 1 < byteAt body 2 ∨ PidsFail body 3) :
    SubscribeBody.read body = none := by
  refine Option.eq_none_iff_forall_ne_some.mpr fun b reads => ?_
  obtain ⟨index, -, mode, pids⟩ := subscribeBody_read_eq_some.mp reads
  rcases range with high | high | fails
  · rw [finOf_eq_none high] at index
    cases index
  · rw [errorMode_ofCode, List.getElem?_eq_none (high)] at mode
    cases mode
  · rw [readPids_eq_none.mpr fails] at pids
    cases pids

/-! ## The first three checks (R125) -/

theorem checkSubscribe_noChannel (unplanned : s.entry b.index = none) : s.checkSubscribe p b = .refuse .noChannel [] := by
  simp only [State.checkSubscribe, unplanned]

theorem checkSubscribe_duplicate (entry : s.entry b.index = some e) (held : s.subOn p b.index = some i) :
    s.checkSubscribe p b = .refuse .duplicate (enc8 i.val) := by
  simp only [State.checkSubscribe, entry, held]

theorem checkSubscribe_limit (entry : s.entry b.index = some e) (fresh : s.subOn p b.index = none)
    (full : s.freeId p = none) : s.checkSubscribe p b = .refuse .limit [] := by
  simp only [State.checkSubscribe, entry, fresh, full]

theorem subOn_of_least (held : (s.sub p i).map Sub.channel = some x)
    (least : ∀ j, j < i → (s.sub p j).map Sub.channel ≠ some x) : s.subOn p x = some i :=
  find?_eq_some_of_least (by decide) (mem_allIds i) (decide_eq_true held) fun j below => decide_eq_false (least j below)

theorem subOn_eq_none_of_map (fresh : ∀ j, (s.sub p j).map Sub.channel ≠ some x) : s.subOn p x = none :=
  List.find?_eq_none.mpr fun j _ held => fresh j (of_decide_eq_true held)

theorem freeId_eq_none (full : ∀ i, s.sub p i ≠ none) : s.freeId p = none :=
  List.find?_eq_none.mpr fun j _ free => full j (of_decide_eq_true free)

/-! ## The fourth check (R45, R126) -/

section
variable (first : PassesFirst s p b e i)
include first

theorem checkSubscribe_window (check : s.windowCheck e b.allowMove = .window) :
    s.checkSubscribe p b = .refuse .window [] := by
  obtain ⟨entry, fresh, id⟩ := first
  simp only [State.checkSubscribe, entry, fresh, id, check]

theorem checkSubscribe_moveNeeded (check : s.windowCheck e b.allowMove = .moveNeeded position) :
    s.checkSubscribe p b = .refuse .moveNeeded (enc32 position) := by
  obtain ⟨entry, fresh, id⟩ := first
  simp only [State.checkSubscribe, entry, fresh, id, check]

theorem checkSubscribe_tooSoon (check : s.windowCheck e b.allowMove = .tooSoon wait) :
    s.checkSubscribe p b = .refuse .moveTooSoon (encOpt32 wait) := by
  obtain ⟨entry, fresh, id⟩ := first
  simp only [State.checkSubscribe, entry, fresh, id, check]

theorem checkSubscribe_moving (check : s.windowCheck e b.allowMove = .move position) :
    s.checkSubscribe p b = s.laneAndCapacity p i b.index (some position) := by
  obtain ⟨entry, fresh, id⟩ := first
  simp only [State.checkSubscribe, entry, fresh, id, check]

end

section
variable (outside : fits s.fe.window e = false)
include outside

theorem windowCheck_window (place : placement e s.sharedEntries = none) : s.windowCheck e flagged = .window := by
  rw [State.windowCheck, if_neg (by simp [outside]), place]

theorem windowCheck_moveNeeded (place : placement e s.sharedEntries = some position) (shared : s.anyShared = true)
    (unflagged : flagged = false) : s.windowCheck e flagged = .moveNeeded position := by
  rw [State.windowCheck, if_neg (by simp [outside]), place]
  exact if_pos (by simp [shared, unflagged])

theorem windowCheck_tooSoon (place : placement e s.sharedEntries = some position)
    (asked : flagged = true ∨ s.anyShared = false) (soon : s.moveTooSoon = some wait) :
    s.windowCheck e flagged = .tooSoon wait := by
  have passed : ¬ (s.anyShared && !flagged) = true := by
    rcases asked with flag | unshared
    · simp [flag]
    · simp [unshared]
  rw [State.windowCheck, if_neg (by simp [outside]), place]
  simp only [if_neg passed, soon]

end

theorem anyShared_eq_true : s.anyShared = true ↔ ∃ l, 0 < (s.admLane l).share := by
  rw [← Bool.not_eq_false, anyShared_eq_false, not_forall]
  simp only [Nat.pos_iff_ne_zero]

theorem moveTooSoon_retuning (retuning : s.fe.state = .retuning) : s.moveTooSoon = some none := if_pos retuning

theorem moveTooSoon_young {t0 : Time} (still : s.fe.state ≠ .retuning) (shared : s.anyShared = true)
    (moved : s.fe.lastMove = some t0) (young : (s.now - t0).toNat < s.plan.settings.moveInterval) :
    s.moveTooSoon = some (some (s.plan.settings.moveInterval - (s.now - t0).toNat)) := by
  rw [State.moveTooSoon, if_neg still, if_pos shared, moved]
  exact if_pos young

/-! ## The fifth and sixth checks (R127, R128) -/

theorem laneAndCapacity_noLane (unchosen : s.chooseLane x move = none) :
    s.laneAndCapacity p i x move = .refuse .noLane [] := by
  rw [State.laneAndCapacity, unchosen]

theorem laneAndCapacity_capacity (chosen : s.chooseLane x move = some choice) (entry : s.entry x = some e)
    (rated : s.subscribeRate x choice = rate)
    (exceeds : (s.admPort p).capacity < (s.admPort p).committed + linkLoad (rate.getD (provisionalRate e.bandwidth))) :
    s.laneAndCapacity p i x move = .refuse .capacity
      (enc16 (linkLoad (rate.getD (provisionalRate e.bandwidth))) ++
        (enc32 (s.admPort p).committed ++ enc32 (s.admPort p).capacity)) := by
  have unfit : ¬ (s.admPort p).fits (linkLoad (rate.getD (provisionalRate e.bandwidth))) = true := fun fits =>
    Nat.not_le.mpr exceeds (of_decide_eq_true fits)
  rw [State.laneAndCapacity, chosen]
  simp only [rated, chargeFor_of_entry entry, if_neg unfit, List.append_assoc]

theorem countsFree_of_free (free : (s.lane l).state = .free) : s.countsFree move l = true := by
  have idle : s.laneBusy l = false := by rw [← Bool.not_eq_true, laneBusy_iff, not_not]; exact free
  cases move <;> simp [State.countsFree, idle]

/-- With every lane busy and shared, none counts as FREE and none lingers. -/
theorem chooseLane_none (unheld : s.holdingLane x = none)
    (taken : ∀ l, (s.lane l).state ≠ .free ∧ 0 < (s.admLane l).share) : s.chooseLane x move = none := by
  have stays : ∀ l, s.lingering l = false := fun l => Bool.eq_false_iff.mpr fun lingers =>
    absurd (lingering_iff.mp lingers).2 (taken l).2.ne'
  have counts : allLanes.find? (s.countsFree move) = none := List.find?_eq_none.mpr fun l _ => by
    have busy := laneBusy_iff.mpr (taken l).1
    cases move <;> simp [State.countsFree, busy, stays l]
  have oldest : s.oldestLinger = none := by
    rw [oldestLinger_eq, List.filter_eq_nil_iff.mpr fun l _ => by simp [stays l]]
    rfl
  rw [State.chooseLane, unheld]
  simp only [counts, oldest]
  rfl

theorem foldl_olderOf_isSome (age : LaneId → Nat) {items : List LaneId} {best : Option LaneId}
    (some : best.isSome = true ∨ items ≠ []) : (items.foldl (olderOf age) best).isSome = true := by
  induction items generalizing best with
  | nil => exact some.resolve_right fun h => h rfl
  | cons l rest ih =>
    refine ih (.inl ?_)
    unfold olderOf
    split
    · rfl
    · split <;> rfl

/-- With some lane FREE or unshared a lane for itself is found, charged from its channel's memo (R127, R128). -/
theorem chooseLane_found (unheld : s.holdingLane x = none) (lane : ∃ l, (s.lane l).state = .free ∨ (s.admLane l).share = 0)
    (rated : MemoRate s x rate) : ∃ choice, s.chooseLane x move = some choice ∧ s.subscribeRate x choice = rate := by
  rw [State.chooseLane, unheld]
  cases counts : allLanes.find? (s.countsFree move) with
  | some l => exact ⟨.free l, rfl, memoRate_eq rated⟩
  | none =>
    have busy : ∀ l, (s.lane l).state ≠ .free := fun l free =>
      List.find?_eq_none.mp counts l (mem_allLanes l) (countsFree_of_free free)
    obtain ⟨l, free | unshared⟩ := lane
    · exact absurd free (busy l)
    · have lingers : l ∈ allLanes.filter s.lingering :=
        List.mem_filter.mpr ⟨mem_allLanes l, lingering_iff.mpr ⟨busy l, unshared⟩⟩
      have oldest : s.oldestLinger.isSome = true := by
        rw [oldestLinger_eq]
        exact foldl_olderOf_isSome _ (.inr (List.ne_nil_of_mem lingers))
      obtain ⟨k, found⟩ := Option.isSome_iff_exists.mp oldest
      refine ⟨.reclaim k, ?_, memoRate_eq rated⟩
      rw [found]
      rfl

/-! ## The command -/

theorem exec_subscribe_range (asks : s.AsksAdmission p .subscribe body) (range : SubscribeBody.read body = none) :
    exec (.subscribe p) s = .next (turnedAway s p .range []) := by
  obtain ⟨settled, attached, granted⟩ := asks
  rw [exec_subscribe granted, subscribe, range]
  exact congrArg Host.Outcome.next (settle_respond_served settled attached .range [])

/-- A SUBSCRIBE whose checks refuse it changes nothing but the answer and the turn. -/
theorem exec_subscribe_refused (asks : s.AsksAdmission p .subscribe body) (reads : SubscribeBody.read body = some b)
    (refused : (markServed p s).checkSubscribe p b = .refuse status fields) :
    exec (.subscribe p) s = .next (turnedAway s p status fields) := by
  obtain ⟨settled, attached, granted⟩ := asks
  rw [exec_subscribe granted, subscribe, reads]
  simp only [refused]
  rw [settle_respond_served settled attached]

/-- The refusals of the first three checks (R125). -/
theorem exec_subscribe_first (asks : s.AsksAdmission p .subscribe body) (reads : SubscribeBody.read body = some b) :
    (s.entry b.index = none → exec (.subscribe p) s = .next (turnedAway s p .noChannel [])) ∧
    (∀ i, s.entry b.index ≠ none → (s.sub p i).map Sub.channel = some b.index →
      (∀ j, j < i → (s.sub p j).map Sub.channel ≠ some b.index) →
      exec (.subscribe p) s = .next (turnedAway s p .duplicate [BitVec.ofNat 8 i.val])) ∧
    (s.entry b.index ≠ none → (∀ i, s.sub p i ≠ none) → (∀ i, (s.sub p i).map Sub.channel ≠ some b.index) →
      exec (.subscribe p) s = .next (turnedAway s p .limit [])) := by
  refine ⟨fun unplanned => ?_, fun i planned held least => ?_, fun planned full fresh => ?_⟩
  · exact exec_subscribe_refused asks reads (checkSubscribe_noChannel (s := markServed p s) unplanned)
  · obtain ⟨e, entry⟩ := Option.ne_none_iff_exists'.mp planned
    have found := subOn_of_least held least
    exact exec_subscribe_refused asks reads (checkSubscribe_duplicate (s := markServed p s) entry found)
  · obtain ⟨e, entry⟩ := Option.ne_none_iff_exists'.mp planned
    have fresh := subOn_eq_none_of_map fresh
    have full := freeId_eq_none full
    exact exec_subscribe_refused asks reads (checkSubscribe_limit (s := markServed p s) entry fresh full)

/-- The refusals of a SUBSCRIBE whose channel does not fit the window: the fourth check, and the last two with the move
that it finds pending (R126 to R128). -/
theorem exec_subscribe_outside (eligible : Eligible s p body b e i) (outside : fits s.fe.window e = false) :
    (placement e s.sharedEntries = none → exec (.subscribe p) s = .next (turnedAway s p .window [])) ∧
    ∀ position, placement e s.sharedEntries = some position →
      (b.allowMove = false → (∃ l, 0 < (s.admLane l).share) →
        exec (.subscribe p) s = .next (turnedAway s p .moveNeeded (enc32 position))) ∧
      (b.allowMove = true ∨ (∀ l, (s.admLane l).share = 0) → s.fe.state = .retuning →
        exec (.subscribe p) s = .next (turnedAway s p .moveTooSoon [0xFF, 0xFF, 0xFF, 0xFF])) ∧
      (∀ t0, b.allowMove = true → (∃ l, 0 < (s.admLane l).share) → s.fe.state ≠ .retuning →
        s.fe.lastMove = some t0 → (s.now - t0).toNat < s.plan.settings.moveInterval →
        exec (.subscribe p) s = .next (turnedAway s p .moveTooSoon
          (enc32 (s.plan.settings.moveInterval - (s.now - t0).toNat)))) ∧
      (MoveAllowed s b.allowMove → (∀ k, (s.lane k).state ≠ .free → (s.lane k).channel ≠ some b.index) →
        ((∀ l, (s.lane l).state ≠ .free ∧ 0 < (s.admLane l).share) →
          exec (.subscribe p) s = .next (turnedAway s p .noLane [])) ∧
        ∀ rate, (∃ l, (s.lane l).state = .free ∨ (s.admLane l).share = 0) → MemoRate s b.index rate →
          let charge := linkLoad (rate.getD (provisionalRate e.bandwidth))
          (s.admPort p).capacity < (s.admPort p).committed + charge →
          exec (.subscribe p) s = .next (turnedAway s p .capacity
            (enc16 charge ++ (enc32 (s.admPort p).committed ++ enc32 (s.admPort p).capacity)))) := by
  have first := passesFirst_of_eligible eligible
  refine ⟨fun place => ?_, fun position place => ⟨fun unflagged shared => ?_, fun asked retuning => ?_,
    fun t0 flag shared still moved young => ?_, fun allowed unheld => ⟨fun taken => ?_, fun rate lane rated => ?_⟩⟩⟩
  · have check := windowCheck_window (s := markServed p s) (flagged := b.allowMove) outside place
    exact exec_subscribe_refused eligible.asks eligible.reads (checkSubscribe_window (s := markServed p s) first check)
  · have check := windowCheck_moveNeeded (s := markServed p s) outside place (anyShared_eq_true.mpr shared) unflagged
    exact exec_subscribe_refused eligible.asks eligible.reads (checkSubscribe_moveNeeded (s := markServed p s) first check)
  · have check := windowCheck_tooSoon (s := markServed p s) outside place (asked.imp_right anyShared_eq_false.mpr)
      (moveTooSoon_retuning retuning)
    exact exec_subscribe_refused eligible.asks eligible.reads (checkSubscribe_tooSoon (s := markServed p s) first check)
  · have check := windowCheck_tooSoon (s := markServed p s) outside place (.inl flag)
      (moveTooSoon_young still (anyShared_eq_true.mpr shared) moved young)
    exact exec_subscribe_refused eligible.asks eligible.reads (checkSubscribe_tooSoon (s := markServed p s) first check)
  · have check := checkSubscribe_moving (s := markServed p s) first
      (windowCheck_move (s := markServed p s) outside place allowed)
    have unchosen := chooseLane_none (move := some position) (holdingLane_eq_none.mpr unheld) taken
    exact exec_subscribe_refused eligible.asks eligible.reads
      (check.trans (laneAndCapacity_noLane (s := markServed p s) unchosen))
  · intro charge exceeds
    have check := checkSubscribe_moving (s := markServed p s) first
      (windowCheck_move (s := markServed p s) outside place allowed)
    obtain ⟨choice, chosen, exact_rate⟩ :=
      chooseLane_found (move := some position) (holdingLane_eq_none.mpr unheld) lane rated
    exact exec_subscribe_refused eligible.asks eligible.reads
      (check.trans (laneAndCapacity_capacity (s := markServed p s) chosen eligible.entry exact_rate exceeds))

/-- The refusals of a SUBSCRIBE whose channel fits the window (R127, R128). -/
theorem exec_subscribe_inside (eligible : Eligible s p body b e i) (inside : fits s.fe.window e = true) :
    ((∀ l, (s.lane l).state ≠ .free ∧ 0 < (s.admLane l).share ∧ (s.lane l).channel ≠ some b.index) →
      exec (.subscribe p) s = .next (turnedAway s p .noLane [])) ∧
    (∀ l, (s.lane l).state ≠ .free → (s.lane l).channel = some b.index →
      (∀ k, (s.lane k).state ≠ .free → (s.lane k).channel = some b.index → k = l) →
      let charge := linkLoad ((s.admLane l).rate.getD (provisionalRate e.bandwidth))
      (s.admPort p).capacity < (s.admPort p).committed + charge →
      exec (.subscribe p) s = .next (turnedAway s p .capacity
        (enc16 charge ++ (enc32 (s.admPort p).committed ++ enc32 (s.admPort p).capacity)))) ∧
    (∀ rate, (∀ k, (s.lane k).state ≠ .free → (s.lane k).channel ≠ some b.index) →
      (∃ l, (s.lane l).state = .free ∨ (s.admLane l).share = 0) → MemoRate s b.index rate →
      let charge := linkLoad (rate.getD (provisionalRate e.bandwidth))
      (s.admPort p).capacity < (s.admPort p).committed + charge →
      exec (.subscribe p) s = .next (turnedAway s p .capacity
        (enc16 charge ++ (enc32 (s.admPort p).committed ++ enc32 (s.admPort p).capacity)))) := by
  have first := passesFirst_of_eligible eligible
  have check := checkSubscribe_stay (s := markServed p s) first inside
  refine ⟨fun taken => ?_, fun l busy holds only => ?_, fun rate unheld lane rated => ?_⟩
  · have unheld : s.holdingLane b.index = none := holdingLane_eq_none.mpr fun k _ => (taken k).2.2
    have unchosen := chooseLane_none (move := none) unheld fun k => ⟨(taken k).1, (taken k).2.1⟩
    exact exec_subscribe_refused eligible.asks eligible.reads
      (check.trans (laneAndCapacity_noLane (s := markServed p s) unchosen))
  · intro charge exceeds
    have chosen := chooseLane_share (move := none) (holdingLane_of_unique busy holds only)
    exact exec_subscribe_refused eligible.asks eligible.reads
      (check.trans (laneAndCapacity_capacity (s := markServed p s) chosen eligible.entry rfl exceeds))
  · intro charge exceeds
    obtain ⟨choice, chosen, exact_rate⟩ :=
      chooseLane_found (move := none) (holdingLane_eq_none.mpr unheld) lane rated
    exact exec_subscribe_refused eligible.asks eligible.reads
      (check.trans (laneAndCapacity_capacity (s := markServed p s) chosen eligible.entry exact_rate exceeds))

/-- Settles O30: the body by its bytes, then each check's refusal behind the checks above it. -/
theorem subscribeRefusalsComeInOrder : Obligations.SubscribeRefusalsComeInOrder := by
  refine ⟨subscribeBody_read_bytes, fun p body s asks =>
    ⟨fun range => exec_subscribe_range asks (subscribeBody_read_of_range range), fun b reads => ?_⟩⟩
  obtain ⟨noChannel, duplicate, limit⟩ := exec_subscribe_first asks reads
  exact ⟨noChannel, duplicate, limit, fun e i eligible =>
    ⟨exec_subscribe_outside eligible, exec_subscribe_inside eligible⟩⟩

end Sys2Proof.Machine
end

section
/-! Entries that leave a port's queue, with their slots and their subscriptions' counters (R143, R144, R147). -/

namespace Sys2Proof.Machine

variable {s t v : State} {p q : Port} {i : SubId} {e : Entry} {rest cut : List Entry} {f : Entry → State → State}
  {quota : Option Nat}

/-! ## Slots (R143, R144) -/

theorem unnamed_zero (x : Option Slot) : unnamed 0 x = x := by cases x <;> rfl

theorem unnamed_unnamed (n : Nat) (x : Option Slot) : unnamed n (unnamed 1 x) = unnamed (1 + n) x := by
  cases x with
  | none => rfl
  | some y =>
    by_cases more : 1 < y.refs
    · cases n with
      | zero => simp [unnamed, more]
      | succ n =>
        by_cases left : n + 1 < y.refs - 1
        · have left' : 1 + (n + 1) < y.refs := by omega
          simp [unnamed, more, left, left', Nat.sub_sub]
        · have gone : ¬ 1 + (n + 1) < y.refs := by omega
          simp [unnamed, more, left, gone]
    · have gone : ¬ 1 + n < y.refs := by omega
      simp [unnamed, more, gone]

/-- Removed entries take what they name off the counts of their slots. -/
theorem Drops.forEach_slot (h : Drops f) (entries : List Entry) (s : State) (i : SlotId) :
    (forEach entries f s).slot i = unnamed (naming i entries) (s.slot i) := by
  induction entries generalizing s with
  | nil => exact (unnamed_zero _).symm
  | cons e rest ih =>
    have dropped : (f e s).slot i = unnamed (if e.slot = i then 1 else 0) (s.slot i) := by
      rw [slot_of_pool (h.pool e s), dropRef_slot]
      split
      · next named => rw [named]
      · rw [unnamed_zero]
    rw [forEach_cons, ih, dropped, naming_cons]
    split
    · exact unnamed_unnamed _ _
    · rw [unnamed_zero, Nat.zero_add]

/-! ## Overflow counters (R147) -/

/-- A subscription's record after some more overflow drops. -/
def overflowed (n : Nat) (u : Sub) : Sub := { u with overflowDropped := counted u.overflowDropped n }

theorem counted_counted (x n : Nat) : counted (counted x 1) n = counted x (1 + n) := by
  unfold counted
  by_cases none : n = 0
  · simp [none]
  · simp only [none, if_false, one_ne_zero, Nat.add_eq_zero_iff, false_and]
    omega

theorem overflowed_zero (u : Sub) : overflowed 0 u = u := rfl

theorem overflowed_overflowed (n : Nat) (u : Sub) : overflowed n (overflowed 1 u) = overflowed (1 + n) u := by
  simp only [overflowed, counted_counted]

/-- How many of some entries belong to the subscription of a port and an id. -/
def entriesOf (q : Port) (i : SubId) (entries : List Entry) : Nat :=
  (entries.filter (fun e => decide (e.port = q ∧ e.id = i))).length

theorem entriesOf_cons : entriesOf q i (e :: rest) = (if e.port = q ∧ e.id = i then 1 else 0) + entriesOf q i rest := by
  unfold entriesOf
  rw [List.filter_cons]
  by_cases own : e.port = q ∧ e.id = i <;> simp [own, Nat.add_comm]

theorem countOverflow_sub (k : Port × SubId) (s : State) (q : Port) (i : SubId) :
    (countOverflow k s).sub q i = (s.sub q i).map (overflowed (if k.1 = q ∧ k.2 = i then 1 else 0)) := by
  by_cases own : k.1 = q ∧ k.2 = i
  · obtain ⟨rfl, rfl⟩ := own
    unfold countOverflow State.modSub
    cases found : s.sub k.1 k.2 with
    | none => simp [found]
    | some u =>
      rw [State.setSub_sub]
      simp [overflowed, counted, satAdd, Config.counterMax]
  · rw [if_neg own, show overflowed 0 = id from funext overflowed_zero, Option.map_id, id_eq]
    unfold countOverflow State.modSub
    split
    · rfl
    · rw [State.setSub_sub, if_neg own]

/-- Two states whose admission controllers differ in the subscriptions' records at most. -/
structure SameSettings (s t : State) : Prop where
  lanes : t.adm.lanes = s.adm.lanes
  lastServed : t.adm.lastServed = s.adm.lastServed
  capacity : ∀ q, (t.admPort q).capacity = (s.admPort q).capacity
  committed : ∀ q, (t.admPort q).committed = (s.admPort q).committed
  standby : ∀ q, (t.admPort q).standby = (s.admPort q).standby

theorem SameSettings.of_adm (same : t.adm = s.adm) : SameSettings s t := by
  have ports : ∀ q, t.admPort q = s.admPort q := fun q => by rw [State.admPort, same]; rfl
  exact ⟨by rw [same], by rw [same], fun q => by rw [ports], fun q => by rw [ports], fun q => by rw [ports]⟩

theorem SameSettings.trans (first : SameSettings s t) (second : SameSettings t v) : SameSettings s v where
  lanes := second.lanes.trans first.lanes
  lastServed := second.lastServed.trans first.lastServed
  capacity q := (second.capacity q).trans (first.capacity q)
  committed q := (second.committed q).trans (first.committed q)
  standby q := (second.standby q).trans (first.standby q)

theorem sameSettings_setSub (p : Port) (i : SubId) (x : Option Sub) (s : State) : SameSettings s (s.setSub p i x) := by
  have admPort := fun q => State.setSub_admPort s p q i x
  refine ⟨rfl, rfl, fun q => ?_, fun q => ?_, fun q => ?_⟩
  all_goals
    rw [admPort]
    split
    · next e => rw [e]
    · rfl

theorem sameSettings_countOverflow (k : Port × SubId) (s : State) : SameSettings s (countOverflow k s) := by
  unfold countOverflow State.modSub
  split
  · exact .of_adm rfl
  · exact sameSettings_setSub ..

theorem sameSettings_discardEntry (e : Entry) (s : State) : SameSettings s (discardEntry e s) :=
  (SameSettings.of_adm ((touches_dropRef s e.slot).same .adm (by decide))).trans (sameSettings_countOverflow _ _)

theorem discardEntry_sub (e : Entry) (s : State) (q : Port) (i : SubId) :
    (discardEntry e s).sub q i = (s.sub q i).map (overflowed (if e.port = q ∧ e.id = i then 1 else 0)) := by
  have same : (dropRef e.slot s).sub q i = s.sub q i :=
    congrArg (fun a : Admission => (a.ports.get q).subs.get i) ((touches_dropRef s e.slot).same .adm (by decide))
  rw [discardEntry, countOverflow_sub, same]

/-- The cut entries count at their subscriptions and leave every setting as it was. -/
theorem forEach_discardEntry (entries : List Entry) (s : State) :
    SameSettings s (forEach entries discardEntry s) ∧
      ∀ q i, (forEach entries discardEntry s).sub q i = (s.sub q i).map (overflowed (entriesOf q i entries)) := by
  induction entries generalizing s with
  | nil => exact ⟨.of_adm rfl, fun q i => by cases found : s.sub q i <;> simp [found, entriesOf, overflowed_zero]⟩
  | cons e rest ih =>
    obtain ⟨settings, subs⟩ := ih (discardEntry e s)
    refine ⟨(sameSettings_discardEntry e s).trans settings, fun q i => ?_⟩
    rw [forEach_cons, subs, discardEntry_sub, Option.map_map, entriesOf_cons]
    refine congrArg (Option.map · (s.sub q i)) (funext fun u => ?_)
    by_cases own : e.port = q ∧ e.id = i
    · rw [if_pos own]
      exact overflowed_overflowed _ u
    · rw [if_neg own, Nat.zero_add]
      rfl

/-! ## A quota applied (R146, R147) -/

/-- The quota of a port after a PORT_SETUP (R146). -/
def quotaAfter (s : State) (p : Port) : Option Nat → Nat
  | none => s.quota p
  | some n => clampQuota n

/-- The entries that a PORT_SETUP cuts (R147). -/
def cutEntries (s : State) (p : Port) (quota : Option Nat) : List Entry := (s.queue p).drop (quotaAfter s p quota)

/-- The subscriptions with the cut entries counted (R147). -/
def subsAfterCut (s : State) (p : Port) (quota : Option Nat) (q : Port) (i : SubId) : Option Sub :=
  (s.sub q i).map (overflowed (entriesOf q i (cutEntries s p quota)))

/-- What applying a quota makes of a state. -/
structure QuotaApplied (s : State) (p : Port) (quota : Option Nat) (t : State) : Prop where
  settings : SameSettings s t
  sub : ∀ q i, t.sub q i = subsAfterCut s p quota q i
  queue : ∀ r, t.queue r = if p = r then (s.queue p).take (quotaAfter s p quota) else s.queue r
  quotas : ∀ r, t.quota r = if p = r then quotaAfter s p quota else s.quota r
  slot : ∀ i, t.slot i = unnamed (naming i (cutEntries s p quota)) (s.slot i)

theorem quotaApplied_quotaApplied (room : (s.queue p).length ≤ s.quota p) :
    QuotaApplied s p quota (quotaApplied p quota s) := by
  cases quota with
  | none =>
    have cut : cutEntries s p none = [] := List.drop_eq_nil_of_le room
    have kept : (s.queue p).take (quotaAfter s p none) = s.queue p := List.take_of_length_le room
    refine ⟨.of_adm rfl, fun q i => ?_, fun r => ?_, fun r => ?_, fun i => ?_⟩
    · rw [subsAfterCut, cut]
      exact (forEach_discardEntry [] s).2 q i
    · rw [kept]
      show s.queue r = _
      split
      · next e => rw [e]
      · rfl
    · show s.quota r = _
      split
      · next e => rw [← e]; rfl
      · rfl
    · rw [cut]
      exact (unnamed_zero _).symm
  | some n =>
    show QuotaApplied s p (some n) (applyQuota p (clampQuota n) s)
    unfold applyQuota
    simp only
    generalize ht : s.setPool _ = t
    obtain ⟨settings, subs⟩ := forEach_discardEntry ((s.queue p).drop (clampQuota n)) t
    obtain ⟨queues, quotas⟩ := drops_discardEntry.forEach_queue ((s.queue p).drop (clampQuota n)) t
    have adm : t.adm = s.adm := by rw [← ht]; rfl
    refine ⟨(SameSettings.of_adm adm).trans settings, fun q i => ?_, fun r => ?_, fun r => ?_, fun i => ?_⟩
    · rw [subs, State.sub, State.admPort, adm]
      rfl
    · rw [queues, ← ht]
      simp [State.queue, quotaAfter]
    · rw [quotas, ← ht]
      simp [State.quota, quotaAfter]
    · rw [drops_discardEntry.forEach_slot, ← ht]
      rfl

theorem quotaApplied_queue_length (room : (s.queue p).length ≤ s.quota p) :
    s.overQuota p quota = (cutEntries s p quota).length := by
  rw [cutEntries, List.length_drop]
  cases quota with
  | none => exact (Nat.sub_eq_zero_of_le room).symm
  | some n => rfl

end Sys2Proof.Machine
end

section
/-! PORT_SETUP (R138, R146, R147): its body, its refusals, and an accepted one from the quota to the downlinks. -/

namespace Sys2Proof.Machine

variable {s t v : State} {p q : Port} {i : SubId} {b : PortSetupBody} {body : List Byte} {status : Status}
  {fields : List Byte}

/-! ## The body (R197, R200) -/

theorem standbyLevel_ofCode (n : Nat) : StandbyLevel.ofCode n = [StandbyLevel.idle, .off][n]? :=
  match n with
  | 0 => rfl
  | 1 => rfl
  | _ + 2 => rfl

theorem given_byte (x : Byte) : given 0xFF x.toNat = givenIn [x] := by
  have spells : numberOf [x] = x.toNat := by simp [numberOf]
  have allOnes : [x].all (fun b => b = 0xFF) = true ↔ x.toNat = 0xFF := by
    simp only [List.all_cons, List.all_nil, Bool.and_true, decide_eq_true_eq, byte_eq_allOnes]
  unfold given givenIn
  rw [spells]
  exact if_congr allOnes.symm rfl rfl

theorem portSetupBody_read_bytes (c3 c2 c1 c0 quota standby : Byte) :
    PortSetupBody.read [c3, c2, c1, c0, quota, standby] =
      { capacity := givenIn [c3, c2, c1, c0], quota := givenIn [quota]
        standby := [StandbyLevel.idle, .off][standby.toNat]? } := by
  rw [← given_word32, ← given_byte, ← standbyLevel_ofCode]
  rfl

/-! ## The end of an event that answers last (R35, R175) -/

/-- The target level looks at lanes, settings, links and standby levels (R34). -/
theorem target_of_same (lanes : t.lanes = s.lanes) (plan : t.plan = s.plan)
    (link : ∀ q, (t.port q).link = (s.port q).link) (standby : ∀ q, (t.admPort q).standby = (s.admPort q).standby) :
    t.target = s.target := by
  refine target_congr (fun l => ?_) plan fun q => ?_
  · rw [State.laneBusy, State.lane, lanes]
    rfl
  · rw [State.demandsIdle, State.demandsIdle, link, standby]

theorem responded_link (r : PortRec) : (r.responded status fields).link = r.link := by
  unfold PortRec.responded
  split <;> rfl

theorem retarget_target (before : Target) (v : State) : (retarget before v).target = v.target := by
  have touched := touches_retarget v before
  exact target_of_same (touched.same .lanes (by decide)) (touched.same .plan (by decide))
    (fun q => congrArg (fun r : PerPort PortRec => (r.get q).link) (touched.same .ports (by decide)))
    (fun q => congrArg (fun a : Admission => (a.ports.get q).standby) (touched.same .adm (by decide)))

theorem retarget_steers (fe : v.fe = s.fe) (now : v.now = s.now) :
    (retarget s.target v).fe = steered s (retarget s.target v).target := by
  rw [retarget_target, retarget_fe, steered_eq, fe, now]

/-- Queued notices and then an answer: an idle downlink sends the answer first (R175). -/
theorem arbitrated_enqueued_responded {r : PortRec} {queue : List Entry} (rests : r.Rests queue)
    (attached : r.link = .attached) (asked : r.requests ≠ []) (notices : List Notice) :
    ((r.enqueued notices).responded status fields).arbitrated queue = (r.answered status fields).enqueued notices := by
  have swap : (r.enqueued notices).responded status fields =
      { r.responded status fields with notices := (r.enqueued notices).notices } := by
    rw [PortRec.enqueued_eq]
    unfold PortRec.responded
    cases hr : r.requests with
    | nil => exact absurd hr asked
    | cons x rest => rfl
  have same : (r.answered status fields).notices = r.notices := by
    unfold PortRec.answered
    split <;> rfl
  rw [swap, arbitrated_responded rests attached asked, PortRec.enqueued_eq (r.answered status fields),
    PortRec.enqueued_notices same]

theorem PortRec.Rests.of_empty {r : PortRec} {queue less : List Entry} (rests : r.Rests queue)
    (empty : queue = [] → less = []) : r.Rests less := fun attached idle =>
  have ⟨responses, notices, queued⟩ := rests attached idle
  ⟨responses, notices, empty queued⟩

/-- A settled port whose record is left alone while its queue loses entries. -/
theorem PortRec.Rests.arbitrated {r : PortRec} {queue : List Entry} (rests : r.Rests queue) :
    r.arbitrated queue = r := by
  unfold PortRec.arbitrated
  split
  · next idle =>
    obtain ⟨responses, notices, queued⟩ := rests idle.1 idle.2
    rw [responses, notices, queued]
  · rfl

theorem touches_settle_respond : Touches [.ports] v (settle (respond p status fields v)) :=
  (touches_respond v p status fields).trans (touches_settle _)

theorem settle_respond_port (q : Port) :
    (settle (respond p status fields v)).port q =
      (if p = q then (v.port p).responded status fields else v.port q).arbitrated (v.queue q) := by
  rw [settle_port, respond_port, queue_of_pool (respond_pool ..)]

theorem settle_respond_target : (settle (respond p status fields v)).target = v.target := by
  refine target_of_same (touches_settle_respond.same .lanes (by decide)) (touches_settle_respond.same .plan (by decide))
    (fun q => ?_) fun q => ?_
  · rw [settle_respond_port, arbitrated_link]
    split
    · next same => rw [responded_link, same]
    · rfl
  · exact congrArg (fun a : Admission => (a.ports.get q).standby) (touches_settle_respond.same .adm (by decide))

/-! ## The refusals (R138, R146) -/

theorem exec_portSetup (granted : s.granted p .portSetup = some body) :
    exec (.portSetup p) s = .next (settle (portSetup p body (markServed p s))) :=
  exec_admission_of_granted (c := (.portSetup, .portSetup p)) (by simp [admissionCommands]) granted

theorem portSetup_of_capacity (given : (PortSetupBody.read body).capacity ≠ none)
    (low : (PortSetupBody.read body).capacityAfter (s.admPort p) < (s.admPort p).committed) :
    portSetup p body s = respond p .capacity (enc32 (s.admPort p).committed) s := by
  have isGiven := Option.isSome_iff_ne_none.mpr given
  unfold portSetup
  exact if_pos (by simp [isGiven, low])

theorem capacity_passes
    (passes : (PortSetupBody.read body).capacity = none ∨
      (s.admPort p).committed ≤ (PortSetupBody.read body).capacityAfter (s.admPort p)) :
    ¬ ((PortSetupBody.read body).capacity.isSome &&
      decide ((PortSetupBody.read body).capacityAfter (s.admPort p) < (s.admPort p).committed)) = true := by
  rcases passes with absent | high
  · simp [absent]
  · simp [Nat.not_lt.mpr high]

theorem quotaRefused_iff {quota : Option Nat} :
    s.quotaRefused p quota = true ↔ quota ≠ none ∧ 128 < s.quotaSum - s.quota p + quotaAfter s p quota := by
  rw [quotaSum_eq_others s p, Nat.add_sub_cancel]
  cases quota with
  | none => simp [State.quotaRefused]
  | some n => simp [State.quotaRefused, quotaAfter]

theorem portSetup_of_quota
    (passes : (PortSetupBody.read body).capacity = none ∨
      (s.admPort p).committed ≤ (PortSetupBody.read body).capacityAfter (s.admPort p))
    (refused : s.quotaRefused p (PortSetupBody.read body).quota = true) :
    portSetup p body s = respond p .quota [] s := by
  unfold portSetup
  exact (if_neg (capacity_passes passes)).trans (if_pos refused)

theorem portSetup_of_accepted
    (passes : (PortSetupBody.read body).capacity = none ∨
      (s.admPort p).committed ≤ (PortSetupBody.read body).capacityAfter (s.admPort p))
    (accepted : ¬ s.quotaRefused p (PortSetupBody.read body).quota = true) :
    portSetup p body s = applySetup p (PortSetupBody.read body) s := by
  unfold portSetup
  exact (if_neg (capacity_passes passes)).trans (if_neg accepted)

/-! ## The fields (R138) -/

theorem touches_quotaApplied {quota : Option Nat} : Touches [.adm, .pool] s (quotaApplied p quota s) := by
  unfold quotaApplied
  split
  · exact Touches.refl _ s
  · exact touches_applyQuota s p _

theorem touches_fieldsApplied : Touches [.fe, .adm, .pool] s (fieldsApplied p b s) :=
  ((touches_quotaApplied.mono (by decide)).trans ((touches_setAdmPort _ p _).mono (by decide))).trans
    ((touches_retarget _ _).mono (by decide))

theorem fieldsApplied_adm :
    (fieldsApplied p b s).adm = ((quotaApplied p b.quota s).modAdmPort p (fun a =>
      { a with capacity := b.capacityAfter (s.admPort p), standby := b.standby.getD a.standby })).adm :=
  (touches_retarget _ _).same .adm (by decide)

theorem fieldsApplied_admPort (q : Port) :
    (fieldsApplied p b s).admPort q =
      if p = q then { (quotaApplied p b.quota s).admPort p with
        capacity := b.capacityAfter (s.admPort p), standby := b.standby.getD ((quotaApplied p b.quota s).admPort p).standby }
      else (quotaApplied p b.quota s).admPort q := by
  rw [State.admPort, fieldsApplied_adm]
  exact State.setAdmPort_admPort ..

theorem fieldsApplied_sub (q : Port) (i : SubId) :
    (fieldsApplied p b s).sub q i = (quotaApplied p b.quota s).sub q i := by
  rw [State.sub, fieldsApplied_admPort]
  split
  · next same => rw [← same]; rfl
  · rfl

theorem fieldsApplied_port (q : Port) : (fieldsApplied p b s).port q = s.port q :=
  congrArg (PerPort.get · q) (touches_fieldsApplied.same .ports (by decide))

theorem fieldsApplied_fe : (fieldsApplied p b s).fe = steered s (fieldsApplied p b s).target := by
  have before : Touches [.adm, .pool] s ((quotaApplied p b.quota s).modAdmPort p (fun a =>
      { a with capacity := b.capacityAfter (s.admPort p), standby := b.standby.getD a.standby })) :=
    touches_quotaApplied.trans ((touches_setAdmPort _ p _).mono (by decide))
  exact retarget_steers (before.same .fe (by decide)) (before.same .now (by decide))

end Sys2Proof.Machine
end

section
/-! An accepted PORT_SETUP (R135, R138, R146, R147), part by part. -/

namespace Sys2Proof.Machine

variable {s t v : State} {p q : Port} {i : SubId} {b : PortSetupBody} {body : List Byte}

/-- The ids that re-admission lets in where the capacity rose (R135, R138). -/
def setupIds (s : State) (p : Port) (b : PortSetupBody) : List SubId :=
  if (s.admPort p).capacity < b.capacityAfter (s.admPort p) then
    letIn (b.capacityAfter (s.admPort p)) (subsAfterCut s p b.quota p) (s.admPort p).committed [0, 1, 2, 3, 4, 5]
  else []

/-- The committed load after re-admission (R135). -/
def setupCommitted (s : State) (p : Port) (b : PortSetupBody) : Nat :=
  (s.admPort p).committed + chargesOf (subsAfterCut s p b.quota p) (setupIds s p b)

/-- The fields of the answer to a PORT_SETUP (R138, R201). -/
def setupFields (s : State) (p : Port) (b : PortSetupBody) : List Byte :=
  enc32 (b.capacityAfter (s.admPort p)) ++ (enc8 (quotaAfter s p b.quota) ++
    (enc8 (b.standby.getD (s.admPort p).standby).code ++
      (enc32 (setupCommitted s p b) ++ enc8 (cutEntries s p b.quota).length)))

/-- The state after an accepted PORT_SETUP. -/
def portSet (p : Port) (b : PortSetupBody) (s : State) : State :=
  settle (respond p .ok (setupFields s p b) (setupReadmitted p b s))

section
variable (applied : QuotaApplied s p b.quota (quotaApplied p b.quota s))
include applied

theorem fieldsApplied_own :
    ((fieldsApplied p b s).admPort p).capacity = b.capacityAfter (s.admPort p) ∧
      ((fieldsApplied p b s).admPort p).standby = b.standby.getD (s.admPort p).standby ∧
      ((fieldsApplied p b s).admPort p).committed = (s.admPort p).committed := by
  rw [fieldsApplied_admPort, if_pos rfl]
  exact ⟨rfl, congrArg b.standby.getD (applied.settings.standby p), applied.settings.committed p⟩

theorem fieldsApplied_lanes : (fieldsApplied p b s).adm.lanes = s.adm.lanes := by
  rw [fieldsApplied_adm]
  exact applied.settings.lanes

theorem backState_fieldsApplied (u : Sub) : backState (fieldsApplied p b s) p u = backState s p u :=
  backState_congr (by rw [fieldsApplied_port]) (fun l => by rw [State.admLane, fieldsApplied_lanes applied]; rfl) u

theorem readmitted_setup (attached : (s.port p).link = .attached)
    (busy : ∀ i u, s.sub p i = some u → (s.admLane u.lane).seen ≠ .free) :
    Readmitted (fieldsApplied p b s) p (subsAfterCut s p b.quota p) (setupIds s p b) (setupReadmitted p b s) := by
  have found : ∀ j, (fieldsApplied p b s).sub p j = subsAfterCut s p b.quota p j := fun j =>
    (fieldsApplied_sub p j).trans (applied.sub p j)
  obtain ⟨capacity, -, committed⟩ := fieldsApplied_own applied
  unfold setupIds setupReadmitted
  split
  · rw [← capacity, ← committed]
    refine readmitted_readmit (by rw [fieldsApplied_port, attached]) found fun j x held => ?_
    obtain ⟨u, before, rfl⟩ := Option.map_eq_some_iff.mp held
    rw [State.admLane, fieldsApplied_lanes applied]
    exact busy j u before
  · exact .start found

section
variable (lets : Readmitted (fieldsApplied p b s) p (subsAfterCut s p b.quota p) (setupIds s p b) (setupReadmitted p b s))
include lets

theorem setupReadmitted_own :
    ((setupReadmitted p b s).admPort p).capacity = b.capacityAfter (s.admPort p) ∧
      ((setupReadmitted p b s).admPort p).standby = b.standby.getD (s.admPort p).standby ∧
      ((setupReadmitted p b s).admPort p).committed = setupCommitted s p b := by
  obtain ⟨capacity, standby, committed⟩ := fieldsApplied_own applied
  rw [lets.own]
  exact ⟨capacity, standby, congrArg (· + _) committed⟩

theorem setupReadmitted_others (other : q ≠ p) :
    ((setupReadmitted p b s).admPort q).capacity = (s.admPort q).capacity ∧
      ((setupReadmitted p b s).admPort q).committed = (s.admPort q).committed ∧
      ((setupReadmitted p b s).admPort q).standby = (s.admPort q).standby := by
  rw [lets.others q other, fieldsApplied_admPort, if_neg (Ne.symm other)]
  exact ⟨applied.settings.capacity q, applied.settings.committed q, applied.settings.standby q⟩

theorem settle_applySetup (room : (s.queue p).length ≤ s.quota p) :
    settle (applySetup p b s) = portSet p b s := by
  obtain ⟨capacity, standby, committed⟩ := setupReadmitted_own applied lets
  have quota : (setupReadmitted p b s).quota p = quotaAfter s p b.quota := by
    rw [quota_of_pool (setupReadmitted_pool p b s), applied.quotas, if_pos rfl]
  rw [applySetup_eq, capacity, standby, committed, quota, quotaApplied_queue_length room, portSet, setupFields]
  simp only [List.append_assoc]

theorem setupReadmitted_sub_own (i : SubId) :
    (setupReadmitted p b s).sub p i = letBack s p (subsAfterCut s p b.quota p) (setupIds s p b) i := by
  rw [lets.sub, letBack_congr (backState_fieldsApplied applied)]

theorem setupReadmitted_sub_other (other : q ≠ p) (i : SubId) :
    (setupReadmitted p b s).sub q i = subsAfterCut s p b.quota q i := by
  rw [State.sub, lets.others q other]
  exact (fieldsApplied_sub q i).trans (applied.sub q i)

theorem setupReadmitted_port_own :
    (setupReadmitted p b s).port p =
      (s.port p).enqueued (backNotices s p (subsAfterCut s p b.quota p) (setupIds s p b)) := by
  rw [lets.port, fieldsApplied_port, backNotices_congr (backState_fieldsApplied applied)]

omit applied in
theorem setupReadmitted_port_other (other : q ≠ p) : (setupReadmitted p b s).port q = s.port q := by
  rw [lets.otherPorts q other, fieldsApplied_port]

omit applied in
theorem setupReadmitted_target : (setupReadmitted p b s).target = (fieldsApplied p b s).target := by
  refine target_of_same (lets.touches.same .lanes (by decide)) (lets.touches.same .plan (by decide)) (fun r => ?_)
    fun r => ?_
  · by_cases own : r = p
    · rw [own, lets.port, PortRec.enqueued_link]
    · rw [lets.otherPorts r own]
  · by_cases own : r = p
    · rw [own, lets.own]
    · rw [lets.others r own]

/-! ## Behind the answer -/

omit applied in
theorem touches_portSet : Touches [.fe, .adm, .pool, .ports] s (portSet p b s) :=
  ((touches_fieldsApplied.mono (by decide)).trans (lets.touches.mono (by decide))).trans
    (touches_settle_respond.mono (by decide))

omit applied lets in
theorem portSet_adm : (portSet p b s).adm = (setupReadmitted p b s).adm := touches_settle_respond.same .adm (by decide)

omit applied lets in
theorem portSet_admPort (q : Port) : (portSet p b s).admPort q = (setupReadmitted p b s).admPort q :=
  congrArg (fun a : Admission => a.ports.get q) portSet_adm

omit applied lets in
theorem portSet_sub (q : Port) (i : SubId) : (portSet p b s).sub q i = (setupReadmitted p b s).sub q i :=
  congrArg (fun a : AdmPort => a.subs.get i) (portSet_admPort q)

omit applied lets in
theorem portSet_pool : (portSet p b s).pool = (quotaApplied p b.quota s).pool :=
  Eq.trans (touches_settle_respond.same .pool (by decide)) (setupReadmitted_pool p b s)

omit applied in
theorem portSet_fe : (portSet p b s).fe = steered s (portSet p b s).target := by
  have fe : (portSet p b s).fe = (fieldsApplied p b s).fe :=
    Eq.trans (touches_settle_respond.same .fe (by decide)) (lets.touches.same .fe (by decide))
  have target : (portSet p b s).target = (fieldsApplied p b s).target :=
    settle_respond_target.trans (setupReadmitted_target lets)
  rw [fe, target, fieldsApplied_fe]

theorem portSet_port_own (settled : s.Settled) (attached : (s.port p).link = .attached)
    (asked : (s.port p).requests ≠ []) :
    (portSet p b s).port p = ((s.port p).answered .ok (setupFields s p b)).enqueued
      (backNotices s p (subsAfterCut s p b.quota p) (setupIds s p b)) := by
  rw [portSet, settle_respond_port, if_pos rfl, setupReadmitted_port_own applied lets,
    queue_of_pool (setupReadmitted_pool p b s), applied.queue, if_pos rfl]
  exact arbitrated_enqueued_responded ((settled.rests p).of_empty fun empty => by rw [empty, List.take_nil]) attached asked _

theorem portSet_port_other (settled : s.Settled) (other : q ≠ p) : (portSet p b s).port q = s.port q := by
  rw [portSet, settle_respond_port, if_neg (Ne.symm other), setupReadmitted_port_other lets other,
    queue_of_pool (setupReadmitted_pool p b s), applied.queue, if_neg (Ne.symm other)]
  exact arbitrated_settled s settled q

end

end

/-! ## The parts that PORT_SETUP and PORT_RESET touch -/

theorem Touches.eq_of_setup (h : Touches [.fe, .adm, .pool, .ports] s t) :
    t = { s with fe := t.fe, adm := t.adm, pool := t.pool, ports := t.ports } := by
  refine State.ext_same fun part => ?_
  have same := h part
  cases part with
  | fe | adm | pool | ports => rfl
  | _ => exact same (by decide)

/-! ## PORT_SETUP (R138, R146, R147) -/

/-- What the statement says of an accepted PORT_SETUP. -/
theorem portSetup_accepted (asks : s.AsksAdmission p .portSetup body)
    (passes : (PortSetupBody.read body).capacity = none ∨
      (s.admPort p).committed ≤ (PortSetupBody.read body).capacityAfter (s.admPort p))
    (accepted : (PortSetupBody.read body).quota = none ∨
      s.quotaSum - s.quota p + quotaAfter s p (PortSetupBody.read body).quota ≤ 128)
    (room : (s.queue p).length ≤ s.quota p)
    (busy : ∀ i u, s.sub p i = some u → (s.admLane u.lane).seen ≠ .free) :
    let b := PortSetupBody.read body
    let t := portSet p b (markServed p s)
    exec (.portSetup p) s = .next t ∧ t.queue p = (s.queue p).take (quotaAfter s p b.quota) ∧
      t.quota p = quotaAfter s p b.quota ∧ (t.admPort p).capacity = b.capacityAfter (s.admPort p) ∧
      (t.admPort p).standby = b.standby.getD (s.admPort p).standby ∧ (t.admPort p).committed = setupCommitted s p b ∧
      (∀ q, q ≠ p → t.queue q = s.queue q ∧ t.quota q = s.quota q ∧ (t.admPort q).capacity = (s.admPort q).capacity ∧
        (t.admPort q).committed = (s.admPort q).committed ∧ (t.admPort q).standby = (s.admPort q).standby) ∧
      (∀ i, t.slot i = unnamed (naming i (cutEntries s p b.quota)) (s.slot i)) ∧
      (∀ i, t.sub p i = letBack s p (subsAfterCut s p b.quota p) (setupIds s p b) i) ∧
      (∀ q i, q ≠ p → t.sub q i = subsAfterCut s p b.quota q i) ∧ (∀ q, q ≠ p → t.port q = s.port q) ∧
      t.port p = ((s.port p).answered .ok (setupFields s p b)).enqueued
        (backNotices s p (subsAfterCut s p b.quota p) (setupIds s p b)) ∧
      t.adm.lanes = s.adm.lanes ∧ t.adm.lastServed = p ∧ t.fe = steered s t.target ∧
      t = { s with fe := t.fe, adm := t.adm, pool := t.pool, ports := t.ports } := by
  intro b t
  obtain ⟨settled, attached, granted⟩ := asks
  have asked := answered_requests_ne (headBody_of_granted granted)
  have applied : QuotaApplied (markServed p s) p b.quota (quotaApplied p b.quota (markServed p s)) :=
    quotaApplied_quotaApplied room
  have lets := readmitted_setup (b := b) applied attached busy
  have pass : ¬ (markServed p s).quotaRefused p b.quota = true := fun refused => by
    obtain ⟨given, full⟩ := quotaRefused_iff.mp refused
    exact accepted.elim given (Nat.not_le.mpr full)
  have queues := queue_of_pool (portSet_pool (p := p) (b := b) (s := markServed p s))
  have quotas := quota_of_pool (portSet_pool (p := p) (b := b) (s := markServed p s))
  have slots := slot_of_pool (portSet_pool (p := p) (b := b) (s := markServed p s))
  obtain ⟨capacity, standby, committed⟩ := setupReadmitted_own applied lets
  refine ⟨?_, ?_, ?_, ?_, ?_, ?_, fun q other => ?_, fun i => ?_, fun i => ?_, fun q i other => ?_, fun q other => ?_, ?_, ?_, ?_,
    portSet_fe lets, ?_⟩
  · rw [exec_portSetup granted, portSetup_of_accepted (s := markServed p s) passes pass]
    exact congrArg Host.Outcome.next (settle_applySetup applied lets room)
  · exact (congrFun queues p).trans ((applied.queue p).trans (if_pos rfl))
  · exact (congrFun quotas p).trans ((applied.quotas p).trans (if_pos rfl))
  · exact (congrArg AdmPort.capacity (portSet_admPort p)).trans capacity
  · exact (congrArg AdmPort.standby (portSet_admPort p)).trans standby
  · exact (congrArg AdmPort.committed (portSet_admPort p)).trans committed
  · have settings := setupReadmitted_others applied lets other
    rw [← portSet_admPort] at settings
    exact ⟨(congrFun queues q).trans ((applied.queue q).trans (if_neg (Ne.symm other))),
      (congrFun quotas q).trans ((applied.quotas q).trans (if_neg (Ne.symm other))), settings⟩
  · exact (congrFun slots i).trans (applied.slot i)
  · exact (portSet_sub p i).trans (setupReadmitted_sub_own applied lets i)
  · exact (portSet_sub q i).trans (setupReadmitted_sub_other applied lets other i)
  · exact portSet_port_other applied lets settled other
  · exact portSet_port_own applied lets settled attached asked
  · exact (congrArg Admission.lanes portSet_adm).trans (lets.lanes.trans (fieldsApplied_lanes applied))
  · refine (congrArg Admission.lastServed portSet_adm).trans (lets.lastServed.trans ?_)
    exact (congrArg Admission.lastServed fieldsApplied_adm).trans applied.settings.lastServed
  · exact (((touches_markServed s p).mono (by decide)).trans (touches_portSet lets)).eq_of_setup

end Sys2Proof.Machine
end

section
/-! The removal of every subscription of a port (R84, R85, R131, R139). -/

namespace Sys2Proof.Machine

variable {s t : State} {p q : Port} {i : SubId} {l : LaneId} {u : Sub} {done ids : List SubId} {n : Nat}

/-! ## A share count that falls more than once (R84) -/

theorem freed_afterFall (s : State) (l : LaneId) (n : Nat) : freed (afterFall s l n) = freed (s.lane l) := by
  unfold afterFall
  split
  · rfl
  · split <;> rfl

theorem lingering_afterFall (linger : s.plan.settings.linger ≠ 0) (time : Time) :
    { afterFall s l n with lingerStart := some time } = { s.lane l with lingerStart := some time } := by
  unfold afterFall
  rw [if_neg linger]
  split <;> rfl

/-- A lane whose share count falls by 1 more, after it has fallen by some number at the same time. -/
structure Fallen (s t : State) (l : LaneId) (n : Nat) : Prop where
  lane : t.lane l = afterFall s l n
  share : (t.admLane l).share = (s.admLane l).share - n
  plan : t.plan = s.plan
  now : t.now = s.now

theorem Fallen.lane_once_more (h : Fallen s t l n) : afterFall t l 1 = afterFall s l (n + 1) := by
  rw [afterFall_one, h.share, h.plan, h.now, h.lane, freed_afterFall]
  have shared : 1 < (s.admLane l).share - n ↔ n + 1 < (s.admLane l).share := by omega
  by_cases more : n + 1 < (s.admLane l).share
  · have before : n < (s.admLane l).share := by omega
    rw [if_pos (shared.mpr more), afterFall, afterFall, if_pos (.inr before), if_pos (.inr more)]
  · have after : afterFall s l (n + 1) =
        if s.plan.settings.linger = 0 then freed (s.lane l) else { s.lane l with lingerStart := some s.now } :=
      if_neg (by simp [more])
    rw [if_neg (mt shared.mp more), after]
    split
    · rfl
    · next linger => exact lingering_afterFall linger s.now

theorem leavesAtFall_iff :
    leavesAtFall s l n = true ↔ n ≠ 0 ∧ (s.admLane l).share ≤ n ∧ s.plan.settings.linger = 0 := decide_eq_true_iff

theorem releaseNotice_afterFall (stays : leavesAtFall s l n = false) :
    releaseNotice (afterFall s l n) = releaseNotice (s.lane l) := by
  have never : ¬ (n ≠ 0 ∧ (s.admLane l).share ≤ n ∧ s.plan.settings.linger = 0) := fun leaves =>
    Bool.false_ne_true (stays.symm.trans (leavesAtFall_iff.mpr leaves))
  unfold afterFall
  split
  · rfl
  · next falls =>
    rw [not_or, Nat.not_lt] at falls
    split
    · next linger => exact absurd ⟨falls.1, falls.2, linger⟩ never
    · rfl

theorem releaseNotice_afterFall_of_leaves (leaves : leavesAtFall s l n = true) :
    releaseNotice (afterFall s l n) = [] := by
  obtain ⟨some, last, linger⟩ := leavesAtFall_iff.mp leaves
  rw [afterFall, if_neg (by simp [some, Nat.not_lt.mpr last]), if_pos linger]
  rfl

/-- A lane is released once, at the fall that ends its last share. -/
theorem Fallen.tells_once_more (h : Fallen s t l n) : fallTells s l n ++ fallTells t l 1 = fallTells s l (n + 1) := by
  have later : leavesAtFall t l 1 = leavesAtFall s l (n + 1) := by
    rw [Bool.eq_iff_iff, leavesAtFall_iff, leavesAtFall_iff, h.share, h.plan]
    omega
  unfold fallTells
  rw [later, h.lane]
  by_cases before : leavesAtFall s l n = true
  · have after : leavesAtFall s l (n + 1) = true := by
      obtain ⟨some, last, linger⟩ := leavesAtFall_iff.mp before
      exact leavesAtFall_iff.mpr ⟨Nat.succ_ne_zero n, by omega, linger⟩
    rw [if_pos before, if_pos after, if_pos after, releaseNotice_afterFall_of_leaves before, List.append_nil]
  · rw [if_neg before, releaseNotice_afterFall (Bool.eq_false_iff.mpr before), List.nil_append]

/-! ## What some ids' subscriptions come to -/

/-- How many of some ids' subscriptions are on a lane. -/
def fallOf (s : State) (p : Port) (ids : List SubId) (l : LaneId) : Nat :=
  (ids.filter (fun i => decide ((s.sub p i).map Sub.lane = some l))).length

/-- What some ids' subscriptions count in the committed load (R121). -/
def chargedOf (s : State) (p : Port) (ids : List SubId) : Nat := (ids.map (fun i => countedCharge (s.sub p i))).sum

/-- The absent-state notices of some ids' subscriptions (R139). -/
def goneNotices (s : State) (p : Port) (ids : List SubId) : List Notice :=
  (ids.filter (fun i => (s.sub p i).isSome)).map (fun i => .streamState i none)

/-- What a removed subscription's lane reports where no other of the port is on it (R85). -/
def reportOnRemoval (s : State) (u : Sub) : Option AdmMsg :=
  if (s.admLane u.lane).share ≤ 1 ∧ s.plan.settings.linger = 0 then some (.toFree u.lane) else none

/-- What the removal of some ids' subscriptions reports to the admission controller. -/
def reportsOf (s : State) (p : Port) (ids : List SubId) : List AdmMsg :=
  ids.filterMap (fun i => (s.sub p i).bind (reportOnRemoval s))

theorem reportsOf_allIds : reportsOf s p allIds = removalReports s p := by
  unfold reportsOf removalReports
  refine List.filterMap_congr fun i _ => ?_
  cases s.sub p i <;> rfl

theorem fallOf_append_one (found : s.sub p i = some u) :
    fallOf s p (done ++ [i]) l = fallOf s p done l + if l = u.lane then 1 else 0 := by
  unfold fallOf
  rw [List.filter_append, List.length_append, List.filter_cons, found]
  by_cases own : l = u.lane
  · simp [own]
  · simp [own, Ne.symm own]

theorem chargedOf_append_one (found : s.sub p i = some u) :
    chargedOf s p (done ++ [i]) = chargedOf s p done + if u.overload = true then 0 else u.charge := by
  simp [chargedOf, found, countedCharge]

theorem goneNotices_append_one (found : s.sub p i = some u) :
    goneNotices s p (done ++ [i]) = goneNotices s p done ++ [.streamState i none] := by
  simp [goneNotices, List.filter_append, found]

theorem reportsOf_append_one (found : s.sub p i = some u) :
    reportsOf s p (done ++ [i]) = reportsOf s p done ++ (reportOnRemoval s u).toList := by
  unfold reportsOf
  rw [List.filterMap_append]
  congr 1
  cases h : reportOnRemoval s u <;> simp [found, h]

/-- Where no port has two subscriptions on a lane, a lane of a subscription still there has not fallen yet. -/
theorem fallOf_eq_zero (one : OneSubPerPort s u.lane) (found : s.sub p i = some u) (fresh : i ∉ done) :
    fallOf s p done u.lane = 0 := by
  unfold fallOf
  rw [List.length_eq_zero_iff, List.filter_eq_nil_iff]
  intro j mem onLane
  obtain ⟨v, held, same⟩ := Option.map_eq_some_iff.mp (of_decide_eq_true onLane)
  exact fresh (one p i j u v found held rfl same ▸ mem)

/-! ## The removals, one after the other (R131, R139) -/

/-- What the removal of some ids' subscriptions has made of a state. -/
structure Removed (s : State) (p : Port) (done : List SubId) (t : State) : Prop where
  touches : Touches [.lanes, .adm, .ports, .mail] s t
  lastServed : t.adm.lastServed = s.adm.lastServed
  sub : ∀ j, t.sub p j = if j ∈ done then none else s.sub p j
  committed : (t.admPort p).committed = (s.admPort p).committed - chargedOf s p done
  others : ∀ q, q ≠ p → t.admPort q = s.admPort q
  admLane : ∀ l, t.admLane l = { s.admLane l with share := (s.admLane l).share - fallOf s p done l }
  lane : ∀ l, t.lane l = afterFall s l (fallOf s p done l)
  mail : t.mail = { s.mail with toStore := t.mail.toStore, toAdm := t.mail.toAdm }
  tells : ∀ l, t.mail.toStore.get l = s.mail.toStore.get l ++ fallTells s l (fallOf s p done l)
  reports : (∀ l, OneSubPerPort s l) → t.mail.toAdm = s.mail.toAdm ++ reportsOf s p done
  otherPorts : ∀ q, q ≠ p → t.port q = s.port q
  port : t.port p = (s.port p).enqueued (goneNotices s p done)

theorem Removed.start : Removed s p [] s where
  touches := Touches.refl _ s
  lastServed := rfl
  sub := fun _ => rfl
  committed := rfl
  others := fun _ _ => rfl
  admLane := fun _ => rfl
  lane := fun _ => rfl
  mail := rfl
  tells := fun _ => (List.append_nil _).symm
  reports := fun _ => (List.append_nil _).symm
  otherPorts := fun _ _ => rfl
  port := rfl

/-- An id that is not in use adds nothing. -/
theorem Removed.skip (h : Removed s p done t) (absent : s.sub p i = none) : Removed s p (done ++ [i]) t := by
  have fall : ∀ l, fallOf s p (done ++ [i]) l = fallOf s p done l := fun l => by simp [fallOf, absent]
  have charged : chargedOf s p (done ++ [i]) = chargedOf s p done := by simp [chargedOf, absent, countedCharge]
  have reports : reportsOf s p (done ++ [i]) = reportsOf s p done := by simp [reportsOf, absent]
  have notices : goneNotices s p (done ++ [i]) = goneNotices s p done := by simp [goneNotices, absent]
  refine ⟨h.touches, h.lastServed, fun j => ?_, charged ▸ h.committed, h.others, fun l => fall l ▸ h.admLane l,
    fun l => fall l ▸ h.lane l, h.mail, fun l => fall l ▸ h.tells l, reports ▸ h.reports, h.otherPorts, notices ▸ h.port⟩
  rw [h.sub]
  by_cases own : j = i
  · subst own
    simp [absent]
  · simp [own]

theorem Removed.fallen (h : Removed s p done t) (l : LaneId) : Fallen s t l (fallOf s p done l) :=
  ⟨h.lane l, by rw [h.admLane], h.touches.same .plan (by decide), h.touches.same .now (by decide)⟩

theorem removeSub_port (p q : Port) (i : SubId) (u : Sub) (s : State) : (removeSub p i u s).port q = s.port q :=
  congrArg (PerPort.get · q) ((touches_removeSub s p i u).same .ports (by decide))

theorem removeSub_admLane (p : Port) (i : SubId) (u : Sub) (s : State) (l : LaneId) :
    (removeSub p i u s).admLane l =
      if l = u.lane then { s.admLane l with share := (s.admLane l).share - 1 } else s.admLane l := by
  rw [State.admLane, removeSub_admLanes, Tab.get_put]
  by_cases own : l = u.lane
  · rw [own, if_pos rfl, if_pos rfl]
  · rw [if_neg own, if_neg (Ne.symm own)]
    rfl

theorem reportOnRemoval_toList (h : Fallen s t u.lane 0) :
    (if leavesAtFall t u.lane 1 = true then [AdmMsg.toFree u.lane] else []) = (reportOnRemoval s u).toList := by
  have leaves : leavesAtFall t u.lane 1 = true ↔ (s.admLane u.lane).share ≤ 1 ∧ s.plan.settings.linger = 0 := by
    rw [leavesAtFall_iff, h.share, h.plan]
    omega
  unfold reportOnRemoval
  by_cases c : (s.admLane u.lane).share ≤ 1 ∧ s.plan.settings.linger = 0
  · rw [if_pos c, if_pos (leaves.mpr c)]
    rfl
  · rw [if_neg c, if_neg (mt leaves.mp c)]
    rfl

/-- One more subscription removed, with its notice. -/
theorem Removed.remove (h : Removed s p done t) (attached : (s.port p).link = .attached) (found : s.sub p i = some u)
    (fresh : i ∉ done) : Removed s p (done ++ [i]) (raiseRemoved p i (removeSub p i u t)) := by
  have raised : Touches [.ports] (removeSub p i u t) (raiseRemoved p i (removeSub p i u t)) := touches_raiseNotice _ _ p
  have adm := raised.same .adm (by decide)
  have lanes := raised.same .lanes (by decide)
  have mails : (raiseRemoved p i (removeSub p i u t)).mail = (removeSub p i u t).mail := raised.same .mail (by decide)
  have admPort : ∀ q, (raiseRemoved p i (removeSub p i u t)).admPort q = (struckOff p i u t).admPort q := fun q =>
    (congrArg (fun a : Admission => a.ports.get q) adm).trans (removeSub_admPort p q i u t)
  obtain ⟨mail, tells⟩ := removeSub_mail p i u t
  refine ⟨?_, ?_, fun j => ?_, ?_, fun q other => ?_, fun l => ?_, fun l => ?_, ?_, fun l => ?_, fun one => ?_,
    fun q other => ?_, ?_⟩
  · exact h.touches.trans (((touches_removeSub t p i u).mono (by decide)).trans (raised.mono (by decide)))
  · exact (congrArg Admission.lastServed adm).trans ((removeSub_lastServed p i u t).trans h.lastServed)
  · refine (congrArg (fun a : Admission => (a.ports.get p).subs.get j) adm).trans (removeSub_sub.trans ?_)
    rw [h.sub]
    by_cases own : j = i
    · simp [own]
    · simp [own]
  · rw [admPort, struckOff, State.setAdmPort_admPort, if_pos rfl, chargedOf_append_one found, committedWithout, h.committed]
    split
    · rfl
    · exact Nat.sub_sub ..
  · rw [admPort, struckOff, State.setAdmPort_admPort, if_neg (Ne.symm other), h.others q other]
  · refine (congrArg (fun a : Admission => a.lanes.get l) adm).trans ((removeSub_admLane p i u t l).trans ?_)
    rw [fallOf_append_one found, h.admLane]
    split
    · simp only [Nat.sub_sub]
    · rfl
  · refine (congrArg (Vector.get · l) lanes).trans ((removeSub_lane p i u t l).trans ?_)
    rw [fallOf_append_one found]
    split
    · exact (h.fallen l).lane_once_more
    · exact h.lane l
  · rw [mails, mail, h.mail]
  · rw [mails, tells, h.tells, fallOf_append_one found, List.append_assoc]
    split
    · rw [(h.fallen l).tells_once_more]
    · rw [List.append_nil, Nat.add_zero]
  · have unfallen := h.fallen u.lane
    rw [fallOf_eq_zero (one u.lane) found fresh] at unfallen
    rw [mails, mail, reportsOf_append_one found, ← List.append_assoc, ← h.reports one, reportOnRemoval_toList unfallen]
  · rw [raiseRemoved, raiseNotice_port, if_neg (Ne.symm other), removeSub_port, h.otherPorts q other]
  · have link : (t.port p).link = .attached := by rw [h.port, PortRec.enqueued_link, attached]
    rw [raiseRemoved, raiseNotice_port, if_pos rfl, removeSub_port, raised_of_attached _ link, goneNotices_append_one found,
      PortRec.enqueued_append, ← h.port]
    rfl

theorem Removed.forEach (attached : (s.port p).link = .attached) (ids : List SubId) :
    ∀ {done : List SubId} {t : State}, Removed s p done t → ids.Nodup → (∀ i ∈ ids, i ∉ done) →
      Removed s p (done ++ ids) (Machine.forEach ids (removeWithNotice p) t) := by
  induction ids with
  | nil =>
    intro done t h _ _
    rw [List.append_nil]
    exact h
  | cons i rest ih =>
    intro done t h distinct fresh
    obtain ⟨once, distinct⟩ := List.nodup_cons.mp distinct
    have later : ∀ j ∈ rest, j ∉ done ++ [i] := fun j hj => by
      simpa [fresh j (List.mem_cons_of_mem i hj)] using ne_of_mem_of_not_mem hj once
    have here : t.sub p i = s.sub p i := (h.sub i).trans (if_neg (fresh i List.mem_cons_self))
    rw [List.append_cons, forEach_cons, removeWithNotice, here]
    cases found : s.sub p i with
    | none => exact ih (h.skip found) distinct later
    | some u => exact ih (h.remove attached found (fresh i List.mem_cons_self)) distinct later

theorem removed_removeAll (attached : (s.port p).link = .attached) : Removed s p allIds (removeAll p s) :=
  Removed.forEach attached allIds .start (by decide) fun _ _ => List.not_mem_nil

end Sys2Proof.Machine
end

section
/-! PORT_RESET (R139, R148, R159), and PORT_SETUP and PORT_RESET as the statement has them. -/

namespace Sys2Proof.Machine

variable {s t v : State} {p q : Port} {i : SubId} {l : LaneId} {body : List Byte}

/-! ## The unsent entries and the defaults (R139, R148, R159) -/

/-- The entry in transmission, which PORT_RESET keeps (R159). -/
def keptEntries (s : State) (p : Port) : List Entry := if (s.port p).downlink = .packet then (s.queue p).take 1 else []

/-- The entries that PORT_RESET removes (R159). -/
def goneEntries (s : State) (p : Port) : List Entry := if (s.port p).downlink = .packet then (s.queue p).tail else s.queue p

theorem emptyUnsent_eq (p : Port) (s : State) :
    emptyUnsent p s = dropRefs (goneEntries s p) (s.setQueue p (keptEntries s p)) := by
  unfold emptyUnsent goneEntries keptEntries State.sendingPacket emptyQueue
  by_cases sending : (s.port p).downlink = .packet <;> simp [sending]

theorem emptyUnsent_queue (p q : Port) (s : State) :
    (emptyUnsent p s).queue q = if p = q then keptEntries s p else s.queue q := by
  rw [emptyUnsent_eq, dropRefs, (drops_dropRef.forEach_queue _ _).1, State.setQueue_queue]

theorem emptyUnsent_quota (p : Port) (s : State) : (emptyUnsent p s).quota = s.quota := by
  rw [emptyUnsent_eq, dropRefs, (drops_dropRef.forEach_queue _ _).2]
  rfl

theorem emptyUnsent_slot (p : Port) (s : State) (i : SlotId) :
    (emptyUnsent p s).slot i = unnamed (naming i (goneEntries s p)) (s.slot i) := by
  rw [emptyUnsent_eq, dropRefs, drops_dropRef.forEach_slot]
  rfl

theorem emptyUnsent_adm (p : Port) (s : State) : (emptyUnsent p s).adm = s.adm :=
  (touches_emptyUnsent s p).same .adm (by decide)

theorem restoreDefaults_admPort (p q : Port) (s : State) :
    (restoreDefaults p s).admPort q =
      if p = q then { s.admPort p with capacity := 100000, standby := .idle } else s.admPort q :=
  State.setAdmPort_admPort s p q { s.admPort p with capacity := 100000, standby := .idle }

theorem restoreDefaults_quota (p q : Port) (s : State) :
    (restoreDefaults p s).quota q = if p = q then min 32 (128 - (s.quotaSum - s.quota p)) else s.quota q := by
  rw [quotaSum_eq_others s p, Nat.add_sub_cancel]
  exact PerPort.get_put s.pool.quotas p q (s.defaultQuota p)

theorem restoreDefaults_queue (p : Port) (s : State) : (restoreDefaults p s).queue = s.queue := rfl

theorem restoreDefaults_slot (p : Port) (s : State) : (restoreDefaults p s).slot = s.slot := rfl

/-- A port's subscriptions removed, its unsent entries gone and its defaults restored. -/
def cleared (p : Port) (s : State) : State := restoreDefaults p (emptyUnsent p (removeAll p s))

/-- The state after a PORT_RESET. -/
def portCleared (p : Port) (s : State) : State :=
  settle (respond p .ok (enc8 (s.subCount p)) (retarget s.target (cleared p s)))

theorem touches_cleared_removed : Touches [.adm, .pool] (removeAll p s) (cleared p s) :=
  ((touches_emptyUnsent _ p).mono (by decide)).trans (touches_restoreDefaults _ p)

theorem touches_cleared : Touches [.lanes, .adm, .pool, .ports, .mail] s (cleared p s) :=
  ((touches_removeAll s p).mono (by decide)).trans (touches_cleared_removed.mono (by decide))

theorem touches_portCleared_cleared : Touches [.fe, .ports] (cleared p s) (portCleared p s) :=
  ((touches_retarget _ _).mono (by decide)).trans (touches_settle_respond.mono (by decide))

theorem touches_portCleared : Touches [.fe, .lanes, .adm, .pool, .ports, .mail] s (portCleared p s) :=
  (touches_cleared.mono (by decide)).trans (touches_portCleared_cleared.mono (by decide))

theorem cleared_admPort (q : Port) :
    (cleared p s).admPort q =
      if p = q then { (removeAll p s).admPort p with capacity := 100000, standby := .idle } else (removeAll p s).admPort q := by
  have same : ∀ r, (emptyUnsent p (removeAll p s)).admPort r = (removeAll p s).admPort r := fun r =>
    congrArg (fun a : Admission => a.ports.get r) (emptyUnsent_adm p _)
  rw [cleared, restoreDefaults_admPort, same, same]

theorem cleared_admLanes : (cleared p s).adm.lanes = (removeAll p s).adm.lanes :=
  Eq.trans (b := (emptyUnsent p (removeAll p s)).adm.lanes) rfl (congrArg Admission.lanes (emptyUnsent_adm p _))

theorem portCleared_adm : (portCleared p s).adm = (cleared p s).adm :=
  touches_portCleared_cleared.same .adm (by decide)

theorem portCleared_admPort (q : Port) : (portCleared p s).admPort q = (cleared p s).admPort q :=
  congrArg (fun a : Admission => a.ports.get q) portCleared_adm

theorem portCleared_pool : (portCleared p s).pool = (cleared p s).pool :=
  touches_portCleared_cleared.same .pool (by decide)

theorem portCleared_fe : (portCleared p s).fe = steered s (portCleared p s).target := by
  have fe : (portCleared p s).fe = (retarget s.target (cleared p s)).fe := touches_settle_respond.same .fe (by decide)
  have target : (portCleared p s).target = (retarget s.target (cleared p s)).target := settle_respond_target
  rw [fe, target]
  exact retarget_steers (touches_cleared.same .fe (by decide)) (touches_cleared.same .now (by decide))

section
variable (removed : Removed s p allIds (removeAll p s))
include removed

theorem removed_queue : (removeAll p s).queue = s.queue := queue_of_pool (removed.touches.same .pool (by decide))

theorem removed_keptEntries : keptEntries (removeAll p s) p = keptEntries s p := by
  unfold keptEntries
  rw [removed_queue removed, removed.port, PortRec.enqueued_eq]

theorem removed_goneEntries : goneEntries (removeAll p s) p = goneEntries s p := by
  unfold goneEntries
  rw [removed_queue removed, removed.port, PortRec.enqueued_eq]

theorem cleared_queue (q : Port) : (cleared p s).queue q = if p = q then keptEntries s p else s.queue q := by
  rw [cleared, restoreDefaults_queue, emptyUnsent_queue, removed_keptEntries removed, removed_queue removed]

theorem cleared_quota (q : Port) :
    (cleared p s).quota q = if p = q then min 32 (128 - (s.quotaSum - s.quota p)) else s.quota q := by
  have quotas : (emptyUnsent p (removeAll p s)).quota = s.quota :=
    (emptyUnsent_quota p _).trans (quota_of_pool (removed.touches.same .pool (by decide)))
  rw [cleared, restoreDefaults_quota, State.quotaSum, quotas]
  rfl

theorem cleared_slot (i : SlotId) : (cleared p s).slot i = unnamed (naming i (goneEntries s p)) (s.slot i) := by
  rw [cleared, restoreDefaults_slot, emptyUnsent_slot, removed_goneEntries removed,
    slot_of_pool (removed.touches.same .pool (by decide))]

theorem portCleared_port (q : Port) :
    (portCleared p s).port q =
      (if p = q then ((s.port p).enqueued (goneNotices s p allIds)).responded .ok (enc8 (s.subCount p)) else s.port q).arbitrated
        (if p = q then keptEntries s p else s.queue q) := by
  have ports : ∀ r, (retarget s.target (cleared p s)).port r = (removeAll p s).port r := fun r =>
    congrArg (PerPort.get · r)
      (Eq.trans ((touches_retarget _ _).same .ports (by decide)) (touches_cleared_removed.same .ports (by decide)))
  have queue : (retarget s.target (cleared p s)).queue q = (cleared p s).queue q :=
    congrFun (queue_of_pool (retarget_pool ..)) q
  rw [portCleared, settle_respond_port, queue, cleared_queue removed, ports, ports, removed.port]
  split
  · rfl
  · next other => rw [removed.otherPorts q (Ne.symm other)]

theorem portCleared_port_own (settled : s.Settled) (attached : (s.port p).link = .attached)
    (asked : (s.port p).requests ≠ []) :
    (portCleared p s).port p = ((s.port p).answered .ok (enc8 (s.subCount p))).enqueued (goneNotices s p allIds) := by
  rw [portCleared_port removed, if_pos rfl, if_pos rfl]
  refine arbitrated_enqueued_responded ((settled.rests p).of_empty fun empty => ?_) attached asked _
  rw [keptEntries, empty, List.take_nil, ite_self]

theorem portCleared_port_other (settled : s.Settled) (other : q ≠ p) : (portCleared p s).port q = s.port q := by
  rw [portCleared_port removed, if_neg (Ne.symm other), if_neg (Ne.symm other)]
  exact arbitrated_settled s settled q

theorem portCleared_other (settled : s.Settled) (other : q ≠ p) :
    (portCleared p s).admPort q = s.admPort q ∧ (portCleared p s).queue q = s.queue q ∧
      (portCleared p s).quota q = s.quota q ∧ (portCleared p s).port q = s.port q := by
  refine ⟨?_, ?_, ?_, portCleared_port_other removed settled other⟩
  · rw [portCleared_admPort, cleared_admPort, if_neg (Ne.symm other), removed.others q other]
  · rw [queue_of_pool portCleared_pool, cleared_queue removed, if_neg (Ne.symm other)]
  · rw [quota_of_pool portCleared_pool, cleared_quota removed, if_neg (Ne.symm other)]

theorem portCleared_sub (i : SubId) : (portCleared p s).sub p i = none := by
  rw [State.sub, portCleared_admPort, cleared_admPort, if_pos rfl]
  exact (removed.sub i).trans (if_pos (mem_allIds i))

theorem portCleared_settings :
    ((portCleared p s).admPort p).capacity = 100000 ∧ ((portCleared p s).admPort p).standby = .idle ∧
      ((portCleared p s).admPort p).committed = (s.admPort p).committed - s.chargedSum p := by
  rw [portCleared_admPort, cleared_admPort, if_pos rfl]
  exact ⟨rfl, rfl, removed.committed⟩

theorem portCleared_mail :
    (portCleared p s).mail =
      { s.mail with toStore := (portCleared p s).mail.toStore, toAdm := (portCleared p s).mail.toAdm } := by
  have mail : (portCleared p s).mail = (removeAll p s).mail :=
    Eq.trans (touches_portCleared_cleared.same .mail (by decide)) (touches_cleared_removed.same .mail (by decide))
  rw [mail]
  exact removed.mail

theorem portCleared_lane (l : LaneId) : (portCleared p s).lane l = afterFall s l (fallOf s p allIds l) := by
  rw [← removed.lane]
  exact congrArg (Vector.get · l)
    (Eq.trans (touches_portCleared_cleared.same .lanes (by decide)) (touches_cleared_removed.same .lanes (by decide)))

theorem portCleared_admLane (l : LaneId) :
    (portCleared p s).admLane l = { s.admLane l with share := (s.admLane l).share - fallOf s p allIds l } := by
  rw [← removed.admLane]
  exact congrArg (Vector.get · l) ((congrArg Admission.lanes portCleared_adm).trans cleared_admLanes)

omit removed in
theorem portCleared_removed_mail : (portCleared p s).mail = (removeAll p s).mail :=
  Eq.trans (touches_portCleared_cleared.same .mail (by decide)) (touches_cleared_removed.same .mail (by decide))

omit removed in
theorem portCleared_lastServed : (portCleared p s).adm.lastServed = s.adm.lastServed := by
  rw [portCleared_adm]
  simp [cleared]

end

theorem Touches.eq_of_reset (h : Touches [.fe, .lanes, .adm, .pool, .ports, .mail] s t) :
    t = { s with fe := t.fe, lanes := t.lanes, adm := t.adm, pool := t.pool, ports := t.ports, mail := t.mail } := by
  refine State.ext_same fun part => ?_
  have same := h part
  cases part with
  | fe | lanes | adm | pool | ports | mail => rfl
  | _ => exact same (by decide)

theorem exec_portReset (granted : s.granted p .portReset = some body) :
    exec (.portReset p) s = .next (portCleared p (markServed p s)) :=
  exec_admission_of_granted (c := (.portReset, .portReset p)) (by simp [admissionCommands]) granted

/-- PORT_RESET as the statement has it. -/
theorem portReset_clears (asks : s.AsksAdmission p .portReset body) :
    let removed := allIds.filter (fun i => (s.sub p i).isSome)
    let kept := if (s.port p).downlink = .packet then (s.queue p).take 1 else []
    let gone := if (s.port p).downlink = .packet then (s.queue p).tail else s.queue p
    let fall := fun l => (allIds.filter (fun i => decide ((s.sub p i).map Sub.lane = some l))).length
    ∃ t, exec (.portReset p) s = .next t ∧ (∀ i, t.sub p i = none) ∧
      (t.admPort p).capacity = 100000 ∧ (t.admPort p).standby = .idle ∧
      (t.admPort p).committed = (s.admPort p).committed - s.chargedSum p ∧
      (∀ q, q ≠ p → t.admPort q = s.admPort q ∧ t.queue q = s.queue q ∧ t.quota q = s.quota q ∧ t.port q = s.port q) ∧
      (∀ l, t.admLane l = { s.admLane l with share := (s.admLane l).share - fall l }) ∧
      (∀ l, t.lane l = afterFall s l (fall l)) ∧ t.adm.lastServed = p ∧
      t.queue p = kept ∧ t.quota p = min 32 (128 - (s.quotaSum - s.quota p)) ∧
      (∀ i, t.slot i = unnamed (naming i gone) (s.slot i)) ∧
      t.port p = removed.foldl (fun r i => { r with notices := enqueueNotice (.streamState i none) r.notices })
        ((s.port p).answered .ok [BitVec.ofNat 8 removed.length]) ∧
      t.fe = steered s t.target ∧ (∀ l, t.mail.toStore.get l = s.mail.toStore.get l ++ fallTells s l (fall l)) ∧
      ((∀ l, OneSubPerPort s l) → t.mail.toAdm = s.mail.toAdm ++ removalReports s p) ∧
      t = { s with
        fe := t.fe, lanes := t.lanes, adm := t.adm, pool := t.pool, ports := t.ports
        mail := { s.mail with toStore := t.mail.toStore, toAdm := t.mail.toAdm } } := by
  intro removed kept gone fall
  obtain ⟨settled, attached, granted⟩ := asks
  have asked := answered_requests_ne (headBody_of_granted granted)
  have all : Removed (markServed p s) p allIds (removeAll p (markServed p s)) := removed_removeAll attached
  obtain ⟨capacity, standby, committed⟩ := portCleared_settings all
  have mails := portCleared_removed_mail (p := p) (s := markServed p s)
  refine ⟨portCleared p (markServed p s), exec_portReset granted, portCleared_sub all, capacity, standby, committed,
    fun q other => portCleared_other all settled other, portCleared_admLane all, portCleared_lane all,
    portCleared_lastServed, ?_, ?_, fun i => ?_, ?_, portCleared_fe, fun l => ?_, fun one => ?_, ?_⟩
  · rw [queue_of_pool portCleared_pool, cleared_queue all, if_pos rfl]
    rfl
  · rw [quota_of_pool portCleared_pool, cleared_quota all, if_pos rfl]
    rfl
  · rw [slot_of_pool portCleared_pool, cleared_slot all]
    rfl
  · exact (portCleared_port_own all settled attached asked).trans List.foldl_map
  · rw [mails]
    exact all.tells l
  · rw [mails, all.reports one, reportsOf_allIds]
    rfl
  · have frame := (((touches_markServed s p).mono (by decide)).trans (touches_portCleared (p := p))).eq_of_reset
    rw [portCleared_mail all] at frame
    exact frame

/-- Settles O35: the body by its bytes; PORT_SETUP by its checks and `portSetup_accepted`; PORT_RESET by `portReset_clears`. -/
theorem portSetupAndResetSetThePort : Obligations.PortSetupAndResetSetThePort := by
  refine ⟨portSetupBody_read_bytes, fun p body s asks => ?_, fun p body s asks => portReset_clears asks⟩
  intro b a capacity quota
  obtain ⟨settled, attached, granted⟩ := id asks
  refine ⟨fun given low => ?_, fun passes => ⟨fun given full => ?_, fun accepted room busy => ?_⟩⟩
  · rw [exec_portSetup granted, portSetup_of_capacity (s := markServed p s) given low]
    exact congrArg Host.Outcome.next (settle_respond_served settled attached .capacity _)
  · have refused : (markServed p s).quotaRefused p b.quota = true := quotaRefused_iff.mpr ⟨given, full⟩
    rw [exec_portSetup granted, portSetup_of_quota (s := markServed p s) passes refused]
    exact congrArg Host.Outcome.next (settle_respond_served settled attached .quota [])
  · exact ⟨_, portSetup_accepted asks passes accepted room busy⟩

end Sys2Proof.Machine
end
